-- ==== Sys2Proof/Word.lean ====
section
/-! DEFINITION. The plainest types: bytes of the link, the numbers of hosts and channels, and a table of a fixed number of
like records. -/

namespace Sys2Proof

/-- A byte on the host link (R179). -/
abbrev Byte := BitVec 8

/-- Host h is the controller on port Hh, h = 0 to 3 (R127). -/
abbrev HostId := Fin 4

/-- Channel c, c = 0 to 7 (R20). -/
abbrev ChanId := Fin 8

/-- `n` like records, one per host or per channel. -/
abbrev Table (n : Nat) (α : Type) := Vector α n

/-- Record `i` of a table. -/
def Table.read {n : Nat} {α : Type} (t : Table n α) (i : Fin n) : α := t[i]

/-- The table with record `i` changed by `f` and every other record kept. -/
def Table.upd {n : Nat} {α : Type} (t : Table n α) (i : Fin n) (f : α → α) : Table n α :=
  t.set i.val (f t[i]) i.isLt

/-- A table holding the same record everywhere. -/
def Table.const (n : Nat) {α : Type} (a : α) : Table n α := Vector.replicate n a

/-- A set of hosts, as an electorate or a consent set (R146). -/
abbrev HostSet := Table 4 Bool

/-- The hosts in port order. -/
def allHosts : List HostId := [0, 1, 2, 3]

/-- The channels in slot order. -/
def allChannels : List ChanId := [0, 1, 2, 3, 4, 5, 6, 7]

end Sys2Proof
end

