-- ==== Sys2Proof/Syntax.lean ====
section
/-! DEFINITION. The commands: one constructor per row of spec/opcode_table.json. The table gives its rows no operands, so
each constructor carries what the row's rule takes from outside the part (log entry 9). -/

namespace Sys2Proof

/-- What the converter sees of one channel in its slot, before each reading is brought into its range (R98):
current in 10 mA, voltages in 10 mV, and the level of the PG pin. -/
structure Reading where
  current : Int
  output  : Int
  bus     : Int
  pg      : Bool
  deriving DecidableEq, Repr

/-- A reading of zeros, with the PG pin low. -/
def Reading.zero : Reading where
  current := 0
  output := 0
  bus := 0
  pg := false

/-- Where in a transaction its command stands: at the fall of select, which begins it, or at the rise, which ends it with what
was clocked (R179, log entry 10). -/
inductive Edge (α : Type) where
  | fall
  | rise (clocked : α)
  deriving DecidableEq, Repr

/-- The transactions of a host port (R179). -/
inductive Transaction where
  | status | request | peek | take | unknown
  deriving DecidableEq, Repr

/-- The commands of the part. A command at whose event a RESET_PART can be adopted carries the levels on the straps, which R2
reads there; a command written without them has both straps low, and one without a reading has every quantity at 0 (log
entry 9). -/
inductive Instr where
  /-- POWER_ON (R17), with the levels on BSEL1 and BSEL0. -/
  | powerOn (straps : BitVec 2)
  /-- RESET_FALL (R141), with the levels on the straps. -/
  | resetFall (straps : BitVec 2)
  /-- RESET_RELEASE (R190), with the levels on the straps. -/
  | resetRelease (straps : BitVec 2)
  /-- START_UP_END (R115): the slot completion, with its reading, that completes the eighth round. -/
  | startUpEnd (reading : Reading := Reading.zero)
  /-- DERATE_PIN_CHANGE (R3): the DERATE pin takes the given level, true for high. -/
  | deratePinChange (level : Bool)
  /-- DERATE_HOLD_EXPIRY (R5). -/
  | derateHoldExpiry
  /-- SLOT_COMPLETION (R109): the slot of a channel completes with a reading. -/
  | slotCompletion (channel : ChanId) (reading : Reading)
  /-- OVERDRAW_COUNT_FULL (R105): a slot completion whose sample carries the overdraw count to 128. -/
  | overdrawCountFull (channel : ChanId) (reading : Reading)
  /-- IDLE_FAULT_LIMIT (R74): a slot completion whose sample is the eighth consecutive one in IDLE without the output off. -/
  | idleFaultLimit (channel : ChanId) (reading : Reading)
  /-- RAMP_TIMER_EXPIRY (R78). -/
  | rampTimerExpiry (channel : ChanId)
  /-- GRACE_TIMER_EXPIRY (R80). -/
  | graceTimerExpiry (channel : ChanId)
  /-- HOLDOFF_TIMER_EXPIRY (R83). -/
  | holdoffTimerExpiry (channel : ChanId)
  /-- DISCHARGE_TIMER_EXPIRY (R87). -/
  | dischargeTimerExpiry (channel : ChanId)
  /-- LEASE_EXPIRY (R135), with the levels on the straps. -/
  | leaseExpiry (host : HostId) (straps : BitVec 2 := 0#2)
  /-- WINDOW_TIMER_EXPIRY (R154). -/
  | windowTimerExpiry
  /-- BLOCKING_TIMER_EXPIRY (R54). -/
  | blockingTimerExpiry
  /-- DEADLINE_EXPIRY (R57): the deadline of the host's waiting entry with the tag expires. -/
  | deadlineExpiry (host : HostId) (tag : Byte)
  /-- STATUS (R180): a STATUS transaction, ending after so many bits in all. -/
  | status (host : HostId) (edge : Edge Nat)
  /-- UNKNOWN_TRANSACTION (R179): a transaction with an unknown code, ending after so many further whole bytes. -/
  | unknownTransaction (host : HostId) (code : Byte) (edge : Edge Nat)
  /-- REQUEST (R183), ending with the whole frame bytes clocked after the code, and so many bits of an unfinished byte. -/
  | request (host : HostId) (edge : Edge (List Byte)) (stray : Fin 8)
  /-- PEEK (R173), ending with so many whole bytes clocked after the code. -/
  | peek (host : HostId) (edge : Edge Nat)
  /-- TAKE (R174), ending with so many whole bytes clocked after the code. -/
  | take (host : HostId) (edge : Edge Nat)
  /-- UNKNOWN_REQUEST_KIND (R186): the arbiter takes a frame of an unknown kind. -/
  | unknownRequestKind
  /-- QUERY_PART (R187), as taken by the arbiter, like each row below. -/
  | queryPart
  /-- ATTACH (R130). -/
  | attach
  /-- DETACH (R131), with the levels on the straps. -/
  | detach (straps : BitVec 2 := 0#2)
  /-- RENEW (R132). -/
  | renew
  /-- READ_SESSION (R133). -/
  | readSession
  /-- READ_BUDGET (R16). -/
  | readBudget
  /-- CLAIM (R43). -/
  | claim
  /-- CANCEL (R58). -/
  | cancel
  /-- READ_QUEUE (R65). -/
  | readQueue
  /-- RESIZE (R26). -/
  | resize
  /-- RELEASE (R29). -/
  | release
  /-- CLEAR_TRIP (R85). -/
  | clearTrip
  /-- READ_CHANNEL (R110). -/
  | readChannel
  /-- READ_TALLY (R122). -/
  | readTally
  /-- READ_CONFIG (R145). -/
  | readConfig
  /-- READ_PROPOSAL (R147). -/
  | readProposal
  /-- PROPOSE (R148), with the levels on the straps. -/
  | propose (straps : BitVec 2 := 0#2)
  /-- CONSENT (R151), with the levels on the straps. -/
  | consent (straps : BitVec 2 := 0#2)
  /-- DISSENT (R152). -/
  | dissent
  /-- WITHDRAW (R153). -/
  | withdraw
  /-- OUTBOX_HEAD_FIX (R188): the eighth bit of a PEEK or TAKE code has been clocked on the host's port. -/
  | outboxHeadFix (host : HostId)
  deriving DecidableEq, Repr

end Sys2Proof
end

