-- ==== Sys2Proof/Decode.lean ====
section
/-! DEFINITION. The command a table word spells. spec/opcode_table.json gives no row any bits (every row's fields are empty
and spec/98_reader.md counts 44 rows unread), so no word spells a command (log entry 22). What the part itself decodes is the
code in a transaction's first byte (R179). -/

namespace Sys2Proof

/-- The command spelled by the table's bits: none, since the table gives its rows no bits. -/
def decodeTableWord (_nbits _w : Nat) : Option Instr := none

/-- The transaction a code byte names; any other code is unknown (R179). -/
def transactionOf (code : Byte) : Transaction :=
  if code = 0x00#8 then .status
  else if code = 0x5A#8 then .request
  else if code = 0x6C#8 then .peek
  else if code = 0x6D#8 then .take
  else .unknown

/-- The command that ends a transaction on port h whose first byte was a code, with the whole bytes and the bits of an
unfinished byte that were clocked after it (R179). -/
def commandAtRise (h : HostId) (code : Byte) (bytes : List Byte) (stray : Fin 8) : Instr :=
  match transactionOf code with
  | .status => .status h (.rise (8 + 8 * bytes.length + stray.val))
  | .request => .request h (.rise bytes) stray
  | .peek => .peek h (.rise bytes.length)
  | .take => .take h (.rise bytes.length)
  | .unknown => .unknownTransaction h code (.rise bytes.length)

end Sys2Proof
end

