-- ==== Sys2Proof/Config.lean ====
section
/-! DEFINITION. The figures the part fixes: lengths of its timers, capacities, limits, identity and the defaults of the
configuration record. The spec calls no value undefined, so no constant here is left without a value. -/

namespace Sys2Proof.Config

/-- A scan slot lasts 250 microseconds (R97), so 4 slots make a millisecond. -/
def slotsPerMs : Nat := 4
/-- The DERATE hold timer, ms (R3). -/
def derateHold : Nat := 10
/-- The power-good grace period, ms (R79). -/
def grace : Nat := 100
/-- The discharge window, ms (R86). -/
def dischargeWindow : Nat := 200
/-- The proposal window, ms (R154). -/
def proposalWindow : Nat := 3000

/-- Entries the wait queue holds at most (R41). -/
def queueCapacity : Nat := 12
/-- Entries of one host the wait queue holds at most (R41). -/
def queuePerHost : Nat := 4
/-- Responses an outbox holds at most (R169). -/
def responseCapacity : Nat := 4
/-- Notices an outbox holds at most, a marker included (R169). -/
def noticeCapacity : Nat := 4
/-- A NOTICES_LOST marker's count saturates here (R170). -/
def lostCountMax : Nat := 255
/-- The longest body a request frame may carry (R181). -/
def bodyMax : Nat := 24

/-- The overdraw count that gives the verdict OVERDRAW (R105). -/
def overdrawFull : Nat := 128
/-- What a sample over the limit adds to the overdraw count (R105). -/
def overdrawRise : Nat := 8
/-- The current magnitude above which a sample is severe, 10 mA (R107). -/
def severeCurrent : Nat := 30000
/-- Consecutive IDLE samples without the output off that fault a channel (R74). -/
def idleFaultLimit : Nat := 8
/-- Scan rounds that make up start-up (R115). -/
def startUpRounds : Nat := 8

/-- The largest grant amount and the largest ceiling (R19, R143). -/
def amountMax : Nat := 40000
/-- The largest budget level and the largest cap (R1, R25). -/
def powerMax : Nat := 65000
/-- The largest grant number (R21). -/
def grantNumberMax : Nat := 65535
/-- The largest epoch and the largest proposal id (R128, R146). -/
def byteMax : Nat := 255
/-- The number of arrival numbers (R40). -/
def arrivals : Nat := 65536
/-- The largest age READ_QUEUE reports (R57). -/
def ageMax : Nat := 65535
/-- The modulus of a tally's accumulator and sample count (R116). -/
def tallyModulus : Nat := 4294967296
/-- The modulus of a tally's rollover count (R116). -/
def rolloverModulus : Nat := 256

/-- QUERY_PART's part code, 0D84h (R187). -/
def partCode : Nat := 0x0D84
/-- QUERY_PART's revision (R187). -/
def revision : Nat := 1

/-- Defaults of the configuration record (R143). -/
def ceilingDefault : Nat := 6000
/-- Default ramp window, ms (R93). -/
def rampDefault : Nat := 100
/-- Default holdoff, ms (R93). -/
def holdoffDefault : Nat := 1000
/-- Default retry limit (R93). -/
def retryDefault : Nat := 3
/-- Default cap of a host (R143). -/
def capDefault : Nat := 65000
/-- Default lease period, ms (R140). -/
def leaseDefault : Nat := 5000
/-- Default blocking age, ms (R54). -/
def blockingDefault : Nat := 2000
/-- Default averaging exponent N (R101). -/
def averagingDefault : Nat := 3

/-- The normal level of each strap setting (R2). -/
def normalLevel (straps : BitVec 2) : Nat :=
  match straps.toNat with
  | 0 => 12000
  | 1 => 20000
  | 2 => 30000
  | _ => 48000

/-- The derated level of each strap setting (R2). -/
def deratedLevel (straps : BitVec 2) : Nat :=
  match straps.toNat with
  | 0 => 8000
  | 1 => 14000
  | 2 => 20000
  | _ => 32000

end Sys2Proof.Config
end

