-- ==== Sys2Proof/Machine/State.lean ====
section
/-! DEFINITION. The state of the part as plain data, the reasons a step could stop, and the state after power-on.
Instants are counts of 250 microsecond units on the model's clock (log entry 1). -/

namespace Sys2Proof.Machine

/-- Reasons the machine stops with a fault. There are none: the spec names no condition that stops the part (log entry 21). -/
inductive Fault where
  deriving DecidableEq, Repr

/-- Reasons a command has no meaning. -/
inductive Refusal where
  /-- Raised by `exec` alone, for a command not modelled yet; safe. No command is in that case now. -/
  | notModelled (mnemonic : String)
  deriving DecidableEq, Repr

/-! ### Names the spec gives -/

/-- The states of a channel, in the order of R70. -/
inductive ChanState where
  | idle | checking | ramping | on | discharging | holdoff | latched | faulted
  deriving DecidableEq, Repr

/-- The kinds of a channel's running timer (R70). -/
inductive TimerKind where
  | ramp | grace | discharge | holdoff
  deriving DecidableEq, Repr

/-- The verdict of a sample (R72). -/
inductive Verdict where
  | none | overdraw | severe
  deriving DecidableEq, Repr

/-- Why a channel tripped (R81, R90). -/
inductive TripCause where
  | overdraw | severe | rampTimeout | powerGoodLost
  deriving DecidableEq, Repr

/-- What released or ended a grant (R19). -/
inductive ReleaseCause where
  | released | shed | forced | reset | teardown | switchFault
  deriving DecidableEq, Repr

/-- What a RELEASE did (R29). -/
inductive ReleaseOutcome where
  | ended | discharging
  deriving DecidableEq, Repr

/-- Why a waiting entry was removed (R64). -/
inductive FailCause where
  | expired | overCeiling | channelFaulted | overHostCap | reset
  deriving DecidableEq, Repr

/-- What changed the total budget (R14). -/
inductive BudgetCause where
  | derateAsserted | derateCleared | config
  deriving DecidableEq, Repr

/-- The states of a session (R126). -/
inductive SessionState where
  | detached | attached | closing
  deriving DecidableEq, Repr

/-- How the most recent session closed (R126). -/
inductive CloseCause where
  | none | detached | expired
  deriving DecidableEq, Repr

/-- How a proposal closes (R156). -/
inductive CloseOutcome where
  | adopted | rejected | withdrawn | expired
  deriving DecidableEq, Repr

/-- Where a proposal stands after PROPOSE or CONSENT (R150, R151). -/
inductive Progress where
  | opened | adopted
  deriving DecidableEq, Repr

/-- The result of a REQUEST transaction (R180). -/
inductive FrameResult where
  | none | accepted | checkError | malformed | bufferBusy | full | notReady
  deriving DecidableEq, Repr

/-- Why a request is refused (R189). -/
inductive Reason where
  | notAttached | badRequest | badValue | badChannel | alreadyHeld | notOwner | channelHeld | noBudget | overCeiling
  | overHostCap | channelFaulted | queueFull | duplicate | badState | noSuchClaim | proposalBusy | noProposal | notElector
  | busy
  deriving DecidableEq, Repr

/-- The request kinds of R186. -/
inductive RequestKind where
  | queryPart | attach | detach | renew | readSession | readBudget | claim | cancel | readQueue | resize | release
  | clearTrip | readChannel | readTally | readConfig | readProposal | propose | consent | dissent | withdraw
  deriving DecidableEq, Repr

/-! ### Records -/

/-- The input pins whose level stands between commands: the straps as the part last read them (R2), DERATE (true for high),
RESET (true while held low). -/
structure Pins where
  straps   : BitVec 2
  derate   : Bool
  resetLow : Bool
  deriving DecidableEq, Repr

/-- The budget account (R6, R8) with the DERATE filter (R3): the derate state is ASSERTED exactly when the taken level is
high (R4). -/
structure Budget where
  total       : Nat
  reserved    : Nat
  releasing   : Nat
  derateTaken : Bool
  derateHold  : Option Nat
  deriving DecidableEq, Repr

/-- A grant record (R19); its channel is the index of the slot that holds it. -/
structure Grant where
  number   : Nat
  owner    : HostId
  epoch    : Nat
  tag      : Byte
  amount   : Nat
  priority : Nat
  cause    : Option ReleaseCause
  deriving DecidableEq, Repr

/-- The grant table: slots (R20), admission list as the channels of the grants held, oldest first (R22), counter (R21) and
host reserved totals (R25). -/
structure GrantTable where
  slots        : Table 8 (Option Grant)
  admission    : List ChanId
  nextNumber   : Nat
  hostReserved : Table 4 Nat
  deriving DecidableEq, Repr

/-- One item of a claim (R39). -/
structure Item where
  channel : ChanId
  amount  : Nat
  deriving DecidableEq, Repr

/-- A waiting entry (R39). `born` is the instant of the CLAIM event, from which the age and the deadline's expiry follow. -/
structure WaitEntry where
  host     : HostId
  tag      : Byte
  priority : Nat
  items    : List Item
  deadline : Option Nat
  arrival  : Nat
  born     : Nat
  deriving DecidableEq, Repr

/-- The wait queue: entries from the head (R41), blocking of the head and its timer (R54), arrival counter (R40). -/
structure WaitQueue where
  entries       : List WaitEntry
  headBlocking  : Bool
  blockingTimer : Option Nat
  nextArrival   : Nat
  deriving DecidableEq, Repr

/-- A channel's running timer with its expiry (R70). -/
structure RunningTimer where
  kind   : TimerKind
  expiry : Nat
  deriving DecidableEq, Repr

/-- A channel record (R70). -/
structure Channel where
  state      : ChanState
  gate       : Bool
  timer      : Option RunningTimer
  retries    : Nat
  idleFaults : Nat
  deriving DecidableEq, Repr

/-- A channel measurement record (R100). -/
structure Measurement where
  current  : Int
  output   : Int
  bus      : Int
  pg       : Bool
  power    : Int
  ring     : List Int
  average  : Int
  peak     : Int
  overdraw : Nat
  deriving DecidableEq, Repr

/-- The scan position: the slot in progress and the instant it completes (R97). -/
structure Scan where
  slot : ChanId
  ends : Nat
  deriving DecidableEq, Repr

/-- A tally record (R116). -/
structure Tally where
  accumulator : Nat
  rollovers   : Nat
  samples     : Nat
  deriving DecidableEq, Repr

/-- A session record (R126); `lease` is the expiry of the running lease timer. -/
structure Session where
  state     : SessionState
  epoch     : Nat
  lease     : Option Nat
  lastClose : CloseCause
  deriving DecidableEq, Repr

/-- The per-channel part of the configuration record (R143). -/
structure ChannelConfig where
  ceiling    : Nat
  rampWindow : Nat
  holdoff    : Nat
  retryLimit : Nat
  pgInput    : Bool
  deriving DecidableEq, Repr

/-- The configuration record (R143). -/
structure Configuration where
  normal      : Nat
  derated     : Nat
  channels    : Table 8 ChannelConfig
  caps        : Table 4 Nat
  leasePeriod : Nat
  blockingAge : Nat
  averaging   : Nat
  deriving DecidableEq, Repr

/-- A change that can be proposed: its kind with its arguments (R149). -/
inductive Change where
  | setBudget (normal derated : Nat)
  | setCeiling (channel : ChanId) (ceiling : Nat)
  | setChannelTiming (channel : ChanId) (rampWindow holdoff retryLimit : Nat) (pgInput : Bool)
  | setHostCap (host : HostId) (cap : Nat)
  | setLease (period : Nat)
  | setQueueAge (age : Nat)
  | setAveraging (exponent : Nat)
  | clearChannelFault (channel : ChanId)
  | forceRelease (channel : ChanId) (number : Nat)
  | resetPart
  deriving DecidableEq, Repr

/-- The proposal record (R146); `window` is the expiry of the window timer. -/
structure Proposal where
  id         : Nat
  proposer   : HostId
  change     : Change
  electorate : HostSet
  consents   : HostSet
  window     : Nat
  deriving DecidableEq, Repr

/-! ### What an outbox holds -/

/-- A notice with its fields (R167 and the table of section 9.5). -/
inductive Notice where
  | claimAdmitted (tag : Byte) (grants : List Nat)
  | claimFailed (tag : Byte) (cause : FailCause)
  | channelOn (channel : ChanId) (grant : Nat)
  | channelTripped (channel : ChanId) (grant : Nat) (cause : TripCause) (latched : Bool) (retries : Nat)
  | channelRetry (channel : ChanId) (grant : Nat) (retries : Nat)
  | grantRevoked (channel : ChanId) (grant : Nat) (cause : ReleaseCause)
  | grantEnded (channel : ChanId) (grant : Nat) (cause : ReleaseCause)
  | channelFaulted (channel : ChanId)
  | budgetChanged (total reserved : Nat) (cause : BudgetCause)
  | proposalOpened (id : Nat) (proposer : HostId) (change : Change)
  | proposalClosed (id : Nat) (outcome : CloseOutcome) (dissenter : Option HostId)
  | noticesLost (count : Nat)
  deriving DecidableEq, Repr

/-- READ_BUDGET's fields (R16). -/
structure BudgetReport where
  normal       : Nat
  derated      : Nat
  asserted     : Bool
  total        : Nat
  reserved     : Nat
  releasing    : Nat
  free         : Nat
  waiting      : Nat
  headBlocking : Bool
  deriving DecidableEq, Repr

/-- One entry in READ_QUEUE's response (R65). -/
structure QueueReport where
  tag       : Byte
  position  : Nat
  priority  : Nat
  blocking  : Bool
  arrival   : Nat
  age       : Nat
  remaining : Nat
  items     : List Item
  deriving DecidableEq, Repr

/-- READ_CHANNEL's fields (R111); `grant` stands for the grant number, owner, claim tag and amount. -/
structure ChannelReport where
  channel     : ChanId
  state       : ChanState
  grant       : Option Grant
  ceiling     : Nat
  limit       : Nat
  current     : Int
  output      : Int
  bus         : Int
  pg          : Bool
  power       : Int
  average     : Int
  peak        : Int
  overdraw    : Nat
  retries     : Nat
  retryLimit  : Nat
  peakCleared : Bool
  deriving DecidableEq, Repr

/-- What READ_PROPOSAL reports of an open proposal (R147). -/
structure ProposalReport where
  id         : Nat
  proposer   : HostId
  change     : Change
  electorate : HostSet
  consents   : HostSet
  remaining  : Nat
  deriving DecidableEq, Repr

/-- The answer a response carries: its status, and for REFUSED its reason with the BLOCKED qualifier, else the fields of
its rule (R167). -/
inductive Answer where
  | refused (reason : Reason) (blocked : Bool)
  | queryPart (port : HostId)
  | attach (epoch period : Nat) (lastClose : CloseCause)
  | detach (epoch : Nat) (after : SessionState) (discharging : Nat)
  | renew (period : Nat)
  | readSession (epoch period remaining : Nat)
  | readBudget (report : BudgetReport)
  | claimAdmitted (grants : List Nat)
  | claimQueued (position : Nat)
  | cancel (tag : Byte)
  | readQueue (total : Nat) (own : List QueueReport)
  | resize (channel : ChanId) (grant amount limit : Nat)
  | release (channel : ChanId) (grant : Nat) (outcome : ReleaseOutcome)
  | clearTrip (channel : ChanId) (grant retries : Nat)
  | readChannel (report : ChannelReport)
  | readTally (tally : Tally) (hostReserved : Nat) (cleared : Bool)
  | readGlobal (normal derated : Nat) (caps : Table 4 Nat) (leasePeriod blockingAge averaging : Nat)
  | readChannelConfig (channel : ChanId) (config : ChannelConfig)
  | readProposal (report : Option ProposalReport)
  | propose (id : Nat) (progress : Progress) (electorate : HostSet)
  | consent (id : Nat) (progress : Progress)
  | dissent (id : Nat)
  | withdraw (id : Nat)
  deriving DecidableEq, Repr

/-- An outbox entry (R167): a response carries the low seven bits of its frame's kind byte and the frame's tag. -/
inductive OutEntry where
  | response (kind : BitVec 7) (tag : Byte) (answer : Answer)
  | notice (notice : Notice)
  deriving DecidableEq, Repr

/-- A request frame held in an input buffer (R184). -/
structure Frame where
  kind : Byte
  tag  : Byte
  body : List Byte
  deriving DecidableEq, Repr

/-- A transaction in progress on a port (R179): the status byte composed at the fall of select (R180), and whether the outbox
has been flushed (R175) or RESET has fallen (R177, R190) since, so that a TAKE removes nothing when it ends. -/
structure Selection where
  status : Byte
  spares : Bool
  deriving DecidableEq, Repr

/-- What a PEEK or TAKE in progress has fixed (R188): the head entry, or none for the EMPTY frame. -/
structure HeadFix where
  entry : Option OutEntry
  deriving DecidableEq, Repr

/-- A host port: last frame result (R180), input buffer (R184), select (low while a transaction is in progress, R179), head fixed
(R188), and the bytes the part clocked out in the port's latest transaction (the model's trace of SDO, log entry 12). -/
structure Port where
  result : FrameResult
  buffer : Option Frame
  select : Option Selection
  fix    : Option HeadFix
  sdo    : List Byte
  deriving DecidableEq, Repr

/-! ### The state -/

/-- The state of the part, with the queue of the commands that are waiting. -/
structure State where
  pending      : List Instr
  now          : Nat
  pins         : Pins
  budget       : Budget
  grants       : GrantTable
  queue        : WaitQueue
  channels     : Table 8 Channel
  meas         : Table 8 Measurement
  scan         : Option Scan
  rounds       : Nat
  tallies      : Table 4 Tally
  sessions     : Table 4 Session
  config       : Configuration
  proposal     : Option Proposal
  nextProposal : Nat
  outboxes     : Table 4 (List OutEntry)
  ports        : Table 4 Port
  ready        : Bool
  pointer      : HostId
  deriving DecidableEq, Repr

/-- Right after power-on (R17, R37, R68, R94, R114, R125, R141, R144, R146, R177, R190). The pins are at log entries 7 and
25's levels, the clock at 0. -/
def State.reset : State where
  pending := []
  now := 0
  pins := { straps := 0#2, derate := false, resetLow := false }
  budget := { total := 12000, reserved := 0, releasing := 0, derateTaken := false, derateHold := none }
  grants := { slots := Table.const 8 none, admission := [], nextNumber := 1, hostReserved := Table.const 4 0 }
  queue := { entries := [], headBlocking := false, blockingTimer := none, nextArrival := 0 }
  channels := Table.const 8 { state := .idle, gate := false, timer := none, retries := 0, idleFaults := 0 }
  meas := Table.const 8
    { current := 0, output := 0, bus := 0, pg := false, power := 0, ring := List.replicate 8 0, average := 0, peak := 0,
      overdraw := 0 }
  scan := some { slot := 0, ends := 1 }
  rounds := 0
  tallies := Table.const 4 { accumulator := 0, rollovers := 0, samples := 0 }
  sessions := Table.const 4 { state := .detached, epoch := 0, lease := none, lastClose := .none }
  config :=
    { normal := 12000, derated := 8000,
      channels := Table.const 8 { ceiling := 6000, rampWindow := 100, holdoff := 1000, retryLimit := 3, pgInput := false },
      caps := Table.const 4 65000, leasePeriod := 5000, blockingAge := 2000, averaging := 3 }
  proposal := none
  nextProposal := 1
  outboxes := Table.const 4 []
  ports := Table.const 4 { result := .none, buffer := none, select := none, fix := none, sdo := [] }
  ready := false
  pointer := 0

end Sys2Proof.Machine
end

