-- ==== Sys2Proof/Machine/Ops.lean ====
section
/-! DEFINITION. The named operations every meaning is built from: the clock, reading and changing the records, posting
notices and responses, and the figures computed from the records. -/

namespace Sys2Proof.Machine

/-! ### The clock (log entries 1, 2, 13) -/

/-- `n` milliseconds in the clock's unit. -/
def ms (n : Nat) : Nat := Config.slotsPerMs * n

/-- The clock carried to the instant `t`, or left where it is when it has passed `t`. -/
def State.reach (t : Nat) (s : State) : State := { s with now := max s.now t }

/-- With no command waiting, one unit of time passes. -/
def State.idleTick (s : State) : State := { s with now := s.now + 1 }

/-- Milliseconds left on a timer: its length less the whole milliseconds gone. -/
def State.remaining (s : State) (expiry : Nat) : Nat := (expiry - s.now + (Config.slotsPerMs - 1)) / Config.slotsPerMs

/-! ### Reading the records -/

/-- The record of channel c (R70). -/
def State.chan (s : State) (c : ChanId) : Channel := s.channels.read c
/-- The measurement record of channel c (R100). -/
def State.measure (s : State) (c : ChanId) : Measurement := s.meas.read c
/-- The grant in slot c (R20). -/
def State.slot (s : State) (c : ChanId) : Option Grant := s.grants.slots.read c
/-- The session record of host h (R126). -/
def State.session (s : State) (h : HostId) : Session := s.sessions.read h
/-- The tally of host h (R116). -/
def State.tally (s : State) (h : HostId) : Tally := s.tallies.read h
/-- The outbox of host h (R167). -/
def State.outbox (s : State) (h : HostId) : List OutEntry := s.outboxes.read h
/-- The port of host h (R180, R184). -/
def State.port (s : State) (h : HostId) : Port := s.ports.read h
/-- The settings of channel c (R143). -/
def State.settings (s : State) (c : ChanId) : ChannelConfig := s.config.channels.read c
/-- The cap of host h (R143). -/
def State.cap (s : State) (h : HostId) : Nat := s.config.caps.read h
/-- The host reserved total of host h (R25). -/
def State.hostReserved (s : State) (h : HostId) : Nat := s.grants.hostReserved.read h

/-- Host h is attached (R127). -/
def State.attached (s : State) (h : HostId) : Bool := (s.session h).state == .attached

/-! ### Changing the records -/

/-- Channel c's record changed. -/
def State.withChannel (c : ChanId) (f : Channel → Channel) (s : State) : State := { s with channels := s.channels.upd c f }
/-- Channel c's measurement record changed. -/
def State.withMeasure (c : ChanId) (f : Measurement → Measurement) (s : State) : State := { s with meas := s.meas.upd c f }
/-- Slot c changed. -/
def State.withSlot (c : ChanId) (f : Option Grant → Option Grant) (s : State) : State :=
  { s with grants := { s.grants with slots := s.grants.slots.upd c f } }
/-- The admission list changed (R22). -/
def State.withAdmission (f : List ChanId → List ChanId) (s : State) : State :=
  { s with grants := { s.grants with admission := f s.grants.admission } }
/-- The host reserved total of host h changed (R25). -/
def State.withHostReserved (h : HostId) (f : Nat → Nat) (s : State) : State :=
  { s with grants := { s.grants with hostReserved := s.grants.hostReserved.upd h f } }
/-- Host h's session record changed. -/
def State.withSession (h : HostId) (f : Session → Session) (s : State) : State := { s with sessions := s.sessions.upd h f }
/-- Host h's tally changed. -/
def State.withTally (h : HostId) (f : Tally → Tally) (s : State) : State := { s with tallies := s.tallies.upd h f }
/-- Host h's outbox changed. -/
def State.withOutbox (h : HostId) (f : List OutEntry → List OutEntry) (s : State) : State :=
  { s with outboxes := s.outboxes.upd h f }
/-- Port h changed. -/
def State.withPort (h : HostId) (f : Port → Port) (s : State) : State := { s with ports := s.ports.upd h f }
/-- The reserved total changed (R8). -/
def State.withReserved (f : Nat → Nat) (s : State) : State :=
  { s with budget := { s.budget with reserved := f s.budget.reserved } }
/-- The releasing total changed (R8). -/
def State.withReleasing (f : Nat → Nat) (s : State) : State :=
  { s with budget := { s.budget with releasing := f s.budget.releasing } }

/-! ### The budget's figures -/

/-- The held total (R9). -/
def State.held (s : State) : Nat := s.budget.reserved - s.budget.releasing
/-- The free budget: the total less the reserved total, 0 when that is not positive (R9). -/
def State.free (s : State) : Nat := s.budget.total - s.budget.reserved

/-- The level the derate state selects (R6). -/
def State.selectedLevel (s : State) : Nat := if s.budget.derateTaken then s.config.derated else s.config.normal

/-- The effective limit of channel c: 0 with no grant, else the lower of the grant's amount and the ceiling (R24). -/
def State.effectiveLimit (s : State) (c : ChanId) : Nat :=
  match s.slot c with
  | none => 0
  | some g => min g.amount (s.settings c).ceiling

/-! ### Grants and their owners -/

/-- Channel c holds a grant of host h (R25). -/
def State.holds (s : State) (h : HostId) (c : ChanId) : Bool :=
  match s.slot c with
  | none => false
  | some g => g.owner == h

/-- Host h holds a grant on some channel (R139). -/
def State.holdsAny (s : State) (h : HostId) : Bool := allChannels.any (s.holds h)

/-- Host h owns channel c's grant in its present epoch (R26, R29). -/
def State.owns (s : State) (h : HostId) (c : ChanId) : Bool :=
  match s.slot c with
  | none => false
  | some g => g.owner == h && g.epoch == (s.session h).epoch

/-- The owner of a grant is attached in the grant's epoch: the condition of R30 for every notice about the grant. -/
def State.ownerPresent (s : State) (g : Grant) : Bool := s.attached g.owner && (s.session g.owner).epoch == g.epoch

/-! ### Outboxes (R168 to R172) -/

/-- The entry is a notice, a marker included. -/
def OutEntry.isNotice : OutEntry → Bool
  | .notice _ => true
  | .response .. => false

/-- The entry is a response. -/
def OutEntry.isResponse : OutEntry → Bool
  | .notice _ => false
  | .response .. => true

/-- The entry is a NOTICES_LOST marker. -/
def OutEntry.isMarker : OutEntry → Bool
  | .notice (.noticesLost _) => true
  | _ => false

/-- A marker counts one more lost notice, saturating at 255 (R170). -/
def OutEntry.countLost : OutEntry → OutEntry
  | .notice (.noticesLost n) => .notice (.noticesLost (min (n + 1) Config.lostCountMax))
  | e => e

/-- The youngest notice replaced in its place by a marker with a count of 2 (R170). -/
def markYoungest : List OutEntry → List OutEntry
  | [] => []
  | e :: rest =>
    if e.isNotice && !rest.any OutEntry.isNotice then .notice (.noticesLost 2) :: rest else e :: markYoungest rest

/-- A notice arrives at an outbox (R170, R171). -/
def arrive (n : Notice) (box : List OutEntry) : List OutEntry :=
  if box.any OutEntry.isMarker then box.map OutEntry.countLost
  else if box.countP OutEntry.isNotice < Config.noticeCapacity then box ++ [.notice n]
  else markYoungest box

/-- The transaction in progress on a port, if any, removes nothing at its end, should it be a TAKE (R175, R177). -/
def Port.sparing (p : Port) : Port := { p with select := p.select.map fun x => { x with spares := true } }

/-- A notice posted to host h, which receives it only when attached (R127, R62). -/
def State.post (h : HostId) (n : Notice) (s : State) : State :=
  if s.attached h then s.withOutbox h (arrive n) else s

/-- A notice posted to a grant's owner under R30's condition. -/
def State.postOwner (g : Grant) (n : Notice) (s : State) : State :=
  if s.ownerPresent g then s.post g.owner n else s

/-- A broadcast: a copy to every attached host (R172). -/
def State.broadcast (n : Notice) (s : State) : State := s.post 0 n |>.post 1 n |>.post 2 n |>.post 3 n

/-- The response to a frame joins at the tail of its host's outbox (R168, R186). -/
def State.respond (h : HostId) (f : Frame) (a : Answer) (s : State) : State :=
  s.withOutbox h (· ++ [.response (f.kind.truncate 7) f.tag a])

/-- The REFUSED response to a frame, with no BLOCKED qualifier. -/
def State.refuse (h : HostId) (f : Frame) (r : Reason) (s : State) : State := s.respond h f (.refused r false)

/-- The attention line of host h is driven low: its outbox holds an entry (R176, log entry 20). -/
def State.attentionLow (s : State) (h : HostId) : Bool := !(s.outbox h).isEmpty

/-! ### Channels and measurement records -/

/-- A channel with its gate off, no timer and its counts 0, as it enters IDLE or FAULTED (R86, R88, R94). -/
def Channel.rest (after : ChanState) : Channel :=
  { state := after, gate := false, timer := none, retries := 0, idleFaults := 0 }

/-- The averaging ring restarted zeroed at length 2^N, with its average and the peak at 0 (R102, R104). -/
def Measurement.restart (n : Nat) (m : Measurement) : Measurement :=
  { m with ring := List.replicate (2 ^ n) 0, average := 0, peak := 0 }

/-- Every channel's ring restarted at the exponent in force, and every peak 0 (R102, R103). -/
def State.restartRings (s : State) : State :=
  allChannels.foldl (fun t c => t.withMeasure c (Measurement.restart s.config.averaging)) s

/-- Every tally 0 (R120). -/
def Tally.zero : Tally := { accumulator := 0, rollovers := 0, samples := 0 }

/-- The configuration record at its defaults, the levels from the straps (R143, R144). -/
def Configuration.default (straps : BitVec 2) : Configuration where
  normal := Config.normalLevel straps
  derated := Config.deratedLevel straps
  channels := Table.const 8
    { ceiling := Config.ceilingDefault, rampWindow := Config.rampDefault, holdoff := Config.holdoffDefault,
      retryLimit := Config.retryDefault, pgInput := false }
  caps := Table.const 4 Config.capDefault
  leasePeriod := Config.leaseDefault
  blockingAge := Config.blockingDefault
  averaging := Config.averagingDefault

end Sys2Proof.Machine
end

