-- ==== Sys2Proof/Machine/Layout.lean ====
section
/-! DEFINITION. Byte layouts of the host link: the check byte, the codes of kinds and reasons, the bodies of responses and
notices, the outbox frame and the port status byte (R180 to R182, R186, R188, R189). -/

namespace Sys2Proof.Machine

/-! ### The check byte (R182) -/

/-- `n` bits of a byte taken through the generator x^8 + x^2 + x + 1, most significant first. -/
def crcShift : Nat → Byte → Byte
  | 0, x => x
  | n + 1, x => crcShift n (if x.msb then (x <<< 1) ^^^ 0x07#8 else x <<< 1)

/-- The CRC of some bytes, starting from 0, with no final inversion. -/
def crc (bytes : List Byte) : Byte := bytes.foldl (fun acc b => crcShift 8 (acc ^^^ b)) 0#8

/-- Some bytes closed by their check byte. -/
def closed (bytes : List Byte) : List Byte := bytes ++ [crc bytes]

/-! ### Field encodings (R189) -/

/-- A whole number within 0–255. -/
def byte1 (n : Nat) : List Byte := [BitVec.ofNat 8 n]
/-- A whole number within 0–65535, most significant byte first. -/
def byte2 (n : Nat) : List Byte := [BitVec.ofNat 8 (n / 256), BitVec.ofNat 8 n]
/-- Any other whole number, 4 bytes, most significant first. -/
def byte4 (n : Nat) : List Byte := byte2 (n / 65536) ++ byte2 n
/-- A signed number within −32768 to 32767, two's complement. -/
def signed2 (x : Int) : List Byte := byte2 (BitVec.ofInt 16 x).toNat
/-- Any other signed number, 4 bytes, two's complement. -/
def signed4 (x : Int) : List Byte := byte4 (BitVec.ofInt 32 x).toNat
/-- NO and YES, off and on, low and high. -/
def flag (b : Bool) : List Byte := byte1 b.toNat
/-- A channel number. -/
def chanByte (c : ChanId) : List Byte := byte1 c.val
/-- A host, FFh for NONE. -/
def hostByte : Option HostId → List Byte
  | none => byte1 0xFF
  | some h => byte1 h.val
/-- A set of hosts: bit h set when host h is a member. -/
def hostSetByte (m : HostSet) : List Byte :=
  byte1 ((m.read 0).toNat + 2 * (m.read 1).toNat + 4 * (m.read 2).toNat + 8 * (m.read 3).toNat)

/-! ### Codes of named values, from 0 in the order the owning rule lists them (R189, log entry 15) -/

/-- Channel states, in the order of R70. -/
def ChanState.code : ChanState → Nat
  | .idle => 0 | .checking => 1 | .ramping => 2 | .on => 3 | .discharging => 4 | .holdoff => 5 | .latched => 6
  | .faulted => 7

/-- Causes of CHANNEL_TRIPPED (R90). -/
def TripCause.code : TripCause → Nat
  | .overdraw => 0 | .severe => 1 | .rampTimeout => 2 | .powerGoodLost => 3

/-- Causes of GRANT_ENDED (R33); TEARDOWN appears in no posted notice. -/
def ReleaseCause.endedCode : ReleaseCause → Nat
  | .released => 0 | .shed => 1 | .forced => 2 | .reset => 3 | .switchFault => 4 | .teardown => 5

/-- Causes of GRANT_REVOKED (R32); the others appear in no posted notice. -/
def ReleaseCause.revokedCode : ReleaseCause → Nat
  | .shed => 0 | .forced => 1 | .reset => 2 | .released => 3 | .teardown => 4 | .switchFault => 5

/-- Causes of CLAIM_FAILED (R64). -/
def FailCause.code : FailCause → Nat
  | .expired => 0 | .overCeiling => 1 | .channelFaulted => 2 | .overHostCap => 3 | .reset => 4

/-- Causes of BUDGET_CHANGED (R14). -/
def BudgetCause.code : BudgetCause → Nat
  | .derateAsserted => 0 | .derateCleared => 1 | .config => 2

/-- Last close causes (R130). -/
def CloseCause.code : CloseCause → Nat
  | .none => 0 | .detached => 1 | .expired => 2

/-- Outcomes of PROPOSAL_CLOSED (R157). -/
def CloseOutcome.code : CloseOutcome → Nat
  | .adopted => 0 | .rejected => 1 | .withdrawn => 2 | .expired => 3

/-- Outcomes of PROPOSE and CONSENT (R150, R151). -/
def Progress.code : Progress → Nat
  | .opened => 0 | .adopted => 1

/-- Outcomes of RELEASE (R29). -/
def ReleaseOutcome.code : ReleaseOutcome → Nat
  | .ended => 0 | .discharging => 1

/-- DETACH's state after, listed CLOSING, DETACHED (R131). -/
def SessionState.afterCode : SessionState → Nat
  | .closing => 0 | .detached => 1 | .attached => 2

/-- Frame results (R180). -/
def FrameResult.code : FrameResult → Nat
  | .none => 0 | .accepted => 1 | .checkError => 2 | .malformed => 3 | .bufferBusy => 4 | .full => 5 | .notReady => 6

/-- Reason codes (R189). -/
def Reason.code : Reason → Nat
  | .notAttached => 0x01 | .badRequest => 0x02 | .badValue => 0x03 | .badChannel => 0x04 | .alreadyHeld => 0x05
  | .notOwner => 0x06 | .channelHeld => 0x07 | .noBudget => 0x08 | .overCeiling => 0x09 | .overHostCap => 0x0A
  | .channelFaulted => 0x0B | .queueFull => 0x0C | .duplicate => 0x0D | .badState => 0x0E | .noSuchClaim => 0x0F
  | .proposalBusy => 0x10 | .noProposal => 0x11 | .notElector => 0x12 | .busy => 0x13

/-- Request kind codes (R186). -/
def RequestKind.code : RequestKind → Byte
  | .queryPart => 0x01#8 | .attach => 0x02#8 | .detach => 0x03#8 | .renew => 0x04#8 | .readSession => 0x05#8
  | .readBudget => 0x10#8 | .claim => 0x11#8 | .cancel => 0x12#8 | .readQueue => 0x13#8 | .resize => 0x18#8
  | .release => 0x19#8 | .clearTrip => 0x1A#8 | .readChannel => 0x20#8 | .readTally => 0x21#8 | .readConfig => 0x28#8
  | .readProposal => 0x29#8 | .propose => 0x2A#8 | .consent => 0x2B#8 | .dissent => 0x2C#8 | .withdraw => 0x2D#8

/-- The request kinds, in the order of R186. -/
def requestKinds : List RequestKind :=
  [.queryPart, .attach, .detach, .renew, .readSession, .readBudget, .claim, .cancel, .readQueue, .resize, .release,
   .clearTrip, .readChannel, .readTally, .readConfig, .readProposal, .propose, .consent, .dissent, .withdraw]

/-- The request kind a kind byte names, none for a byte that is not in R186's table. -/
def kindOf (b : Byte) : Option RequestKind := requestKinds.find? (·.code == b)

/-! ### Bodies (R189) -/

/-- The kind and arguments of a proposal (R146, R149). -/
def Change.bytes : Change → List Byte
  | .setBudget n d => byte1 0 ++ byte2 n ++ byte2 d
  | .setCeiling c v => byte1 1 ++ chanByte c ++ byte2 v
  | .setChannelTiming c r o l p => byte1 2 ++ chanByte c ++ byte2 r ++ byte2 o ++ byte1 l ++ flag p
  | .setHostCap h v => byte1 3 ++ byte1 h.val ++ byte2 v
  | .setLease p => byte1 4 ++ byte2 p
  | .setQueueAge a => byte1 5 ++ byte2 a
  | .setAveraging n => byte1 6 ++ byte1 n
  | .clearChannelFault c => byte1 7 ++ chanByte c
  | .forceRelease c g => byte1 8 ++ chanByte c ++ byte2 g
  | .resetPart => byte1 9

/-- The items of a claim. -/
def itemBytes (items : List Item) : List Byte := items.flatMap fun i => chanByte i.channel ++ byte2 i.amount

/-- A list of grant numbers. -/
def grantBytes (grants : List Nat) : List Byte := grants.flatMap byte2

/-- One entry of READ_QUEUE: blocking, item count and priority share one byte (R189). -/
def QueueReport.bytes (q : QueueReport) : List Byte :=
  [q.tag] ++ byte1 q.position ++ byte1 (128 * q.blocking.toNat + 16 * q.items.length + q.priority) ++ byte2 q.arrival ++
    byte2 q.age ++ byte2 q.remaining ++ itemBytes q.items

/-- READ_CHANNEL's body (R111). -/
def ChannelReport.bytes (r : ChannelReport) : List Byte :=
  chanByte r.channel ++ byte1 r.state.code ++ byte2 (r.grant.elim 0 Grant.number) ++ hostByte (r.grant.map Grant.owner) ++
    [r.grant.elim 0#8 Grant.tag] ++ byte2 (r.grant.elim 0 Grant.amount) ++ byte2 r.ceiling ++ byte2 r.limit ++
    signed2 r.current ++ signed2 r.output ++ signed2 r.bus ++ flag r.pg ++ signed4 r.power ++ signed4 r.average ++
    signed4 r.peak ++ byte1 r.overdraw ++ byte1 r.retries ++ byte1 r.retryLimit ++ flag r.peakCleared

/-- A response's body: a refused response carries none (R167). -/
def Answer.bytes : Answer → List Byte
  | .refused _ _ => []
  | .queryPart h => byte2 Config.partCode ++ byte1 Config.revision ++ byte1 4 ++ byte1 8 ++ byte1 h.val
  | .attach e p c => byte1 e ++ byte2 p ++ byte1 c.code
  | .detach e a n => byte1 e ++ byte1 a.afterCode ++ byte1 n
  | .renew p => byte2 p
  | .readSession e p r => byte1 0 ++ byte1 e ++ byte2 p ++ byte2 r
  | .readBudget r =>
    byte2 r.normal ++ byte2 r.derated ++ flag r.asserted ++ byte2 r.total ++ byte2 r.reserved ++ byte2 r.releasing ++
      byte2 r.free ++ byte1 r.waiting ++ flag r.headBlocking
  | .claimAdmitted gs => grantBytes gs
  | .claimQueued p => byte1 p
  | .cancel t => [t]
  | .readQueue n own => byte1 n ++ byte1 own.length ++ own.flatMap QueueReport.bytes
  | .resize c g a l => chanByte c ++ byte2 g ++ byte2 a ++ byte2 l
  | .release c g o => chanByte c ++ byte2 g ++ byte1 o.code
  | .clearTrip c g r => chanByte c ++ byte2 g ++ byte1 r
  | .readChannel r => r.bytes
  | .readTally t r c => byte4 t.accumulator ++ byte1 t.rollovers ++ byte4 t.samples ++ byte2 r ++ flag c
  | .readGlobal n d caps l b a =>
    byte2 n ++ byte2 d ++ allHosts.flatMap (fun h => byte2 (caps.read h)) ++ byte2 l ++ byte2 b ++ byte1 a
  | .readChannelConfig c k =>
    chanByte c ++ byte2 k.ceiling ++ byte2 k.rampWindow ++ byte2 k.holdoff ++ byte1 k.retryLimit ++ flag k.pgInput
  | .readProposal none => flag false
  | .readProposal (some p) =>
    flag true ++ byte1 p.id ++ hostByte (some p.proposer) ++ p.change.bytes ++ hostSetByte p.electorate ++
      hostSetByte p.consents ++ byte2 p.remaining
  | .propose i p e => byte1 i ++ byte1 p.code ++ hostSetByte e
  | .consent i p => byte1 i ++ byte1 p.code
  | .dissent i => byte1 i ++ byte1 0
  | .withdraw i => byte1 i ++ byte1 0

/-- A response's status: 0 OK, 1 ADMITTED, 2 QUEUED, 3 REFUSED (R188). -/
def Answer.status : Answer → Nat
  | .refused _ _ => 3
  | .claimAdmitted _ => 1
  | .claimQueued _ => 2
  | _ => 0

/-- A response's reason byte: 00h when absent, else the code with the BLOCKED qualifier in bit 7 (R188). -/
def Answer.reasonByte : Answer → Nat
  | .refused r b => r.code + 128 * b.toNat
  | _ => 0

/-- A notice's kind code (R188). -/
def Notice.code : Notice → Nat
  | .claimAdmitted .. => 0x01 | .claimFailed .. => 0x02 | .channelOn .. => 0x03 | .channelTripped .. => 0x04
  | .channelRetry .. => 0x05 | .grantRevoked .. => 0x06 | .grantEnded .. => 0x07 | .channelFaulted .. => 0x08
  | .budgetChanged .. => 0x09 | .proposalOpened .. => 0x0A | .proposalClosed .. => 0x0B | .noticesLost .. => 0x0C

/-- A notice's tag: the claim's for CLAIM_ADMITTED and CLAIM_FAILED, 0 for every other (R167). -/
def Notice.tag : Notice → Byte
  | .claimAdmitted t _ => t
  | .claimFailed t _ => t
  | _ => 0#8

/-- A notice's body (section 9.5). -/
def Notice.bytes : Notice → List Byte
  | .claimAdmitted t gs => [t] ++ byte1 gs.length ++ grantBytes gs
  | .claimFailed t k => [t] ++ byte1 k.code
  | .channelOn c g => chanByte c ++ byte2 g
  | .channelTripped c g k latched r => chanByte c ++ byte2 g ++ byte1 k.code ++ flag latched ++ byte1 r
  | .channelRetry c g r => chanByte c ++ byte2 g ++ byte1 r
  | .grantRevoked c g k => chanByte c ++ byte2 g ++ byte1 k.revokedCode
  | .grantEnded c g k => chanByte c ++ byte2 g ++ byte1 k.endedCode
  | .channelFaulted c => chanByte c
  | .budgetChanged t r k => byte2 t ++ byte2 r ++ byte1 k.code
  | .proposalOpened i h ch => byte1 i ++ hostByte (some h) ++ ch.bytes
  | .proposalClosed i o d => byte1 i ++ byte1 o.code ++ hostByte d
  | .noticesLost n => byte1 n

/-! ### Frames -/

/-- A body behind its header and closed by its check byte (R188). -/
def outFrame (classKind : Nat) (tag : Byte) (status reason : Nat) (body : List Byte) : List Byte :=
  closed (byte1 classKind ++ [tag] ++ byte1 status ++ byte1 reason ++ byte1 body.length ++ body)

/-- An entry as its outbox frame (R188). -/
def OutEntry.frame : OutEntry → List Byte
  | .response k t a => outFrame k.toNat t a.status a.reasonByte a.bytes
  | .notice n => outFrame (128 + n.code) n.tag 0 0 n.bytes

/-- The EMPTY frame, the six bytes R188 gives. -/
def emptyFrame : List Byte := [0xFF#8, 0x00#8, 0x00#8, 0x00#8, 0x00#8, 0x39#8]

/-- The frame of a fixed head, EMPTY when there was none. -/
def headFrame : Option OutEntry → List Byte
  | none => emptyFrame
  | some e => e.frame

/-- The port status byte: READY in bit 7, last frame result in bits 6–4, outbox count in bits 3–0 (R180). -/
def State.statusByte (s : State) (h : HostId) : Byte :=
  BitVec.ofNat 8 (128 * s.ready.toNat + 16 * (s.port h).result.code + (s.outbox h).length)

end Sys2Proof.Machine
end

