-- ==== Sys2Proof/Machine/Operands.lean ====
section
/-! DEFINITION. The operand forms: how the bodies of request frames are read as fields (R189), how a proposal's arguments are
validated (R149), and how a reading is brought into a sample's ranges (R98). -/

namespace Sys2Proof.Machine

/-! ### Fields -/

/-- Two bytes as a whole number, most significant first (R189). -/
def word2 (hi lo : Byte) : Nat := hi.toNat * 256 + lo.toNat

/-- A channel number 0–7 as a channel. -/
def channelOf (n : Nat) : Option ChanId := if h : n < 8 then some ⟨n, h⟩ else none

/-- NO and YES, off and on; any other byte is none. -/
def flagOf (b : Byte) : Option Bool := if b = 0#8 then some false else if b = 1#8 then some true else none

/-- A body of one channel field: BAD_VALUE for another length, then BAD_CHANNEL above 7 (R29, R85). -/
def readChannelField : List Byte → Except Reason ChanId
  | [c] =>
    match channelOf c.toNat with
    | none => .error .badChannel
    | some c => .ok c
  | _ => .error .badValue

/-! ### CLAIM (R43) -/

/-- A CLAIM body as read, before any check of ranges. -/
structure RawClaim where
  priority : Nat
  mode     : Nat
  deadline : Nat
  items    : List (Nat × Nat)
  deriving DecidableEq, Repr

/-- `n` items of three bytes each and nothing after them. -/
def readItems : Nat → List Byte → Option (List (Nat × Nat))
  | 0, [] => some []
  | n + 1, c :: hi :: lo :: rest => (readItems n rest).map ((c.toNat, word2 hi lo) :: ·)
  | _, _ => none

/-- A CLAIM body whose length agrees with its item count. -/
def readClaim : List Byte → Option RawClaim
  | p :: m :: hi :: lo :: n :: rest =>
    (readItems n.toNat rest).map fun items =>
      { priority := p.toNat, mode := m.toNat, deadline := word2 hi lo, items := items }
  | _ => none

/-- The ranges of R44's first line, with no channel named twice. -/
def RawClaim.inRange (r : RawClaim) : Bool :=
  decide (1 ≤ r.items.length ∧ r.items.length ≤ 4) && decide (r.priority ≤ 7) && decide (r.mode ≤ 1) &&
    r.items.all (fun i => decide (1 ≤ i.2 ∧ i.2 ≤ Config.amountMax)) && decide (r.items.map Prod.fst).Nodup

/-- The items with their channels, none when a channel is above 7. -/
def rawItems : List (Nat × Nat) → Option (List Item)
  | [] => some []
  | (c, a) :: rest =>
    match channelOf c, rawItems rest with
    | some c, some items => some ({ channel := c, amount := a } :: items)
    | _, _ => none

/-- A CLAIM whose fields are in range; the deadline is absent for 0 and for NO_WAIT (R43). -/
structure Claim where
  priority : Nat
  waits    : Bool
  deadline : Option Nat
  items    : List Item
  deriving DecidableEq, Repr

/-- The fields of a CLAIM body, or the reason of R44's first two lines. -/
def claimFields (body : List Byte) : Except Reason Claim :=
  match readClaim body with
  | none => .error .badValue
  | some r =>
    if r.inRange then
      match rawItems r.items with
      | none => .error .badChannel
      | some items =>
        .ok { priority := r.priority, waits := r.mode == 1,
              deadline := if r.mode = 1 ∧ r.deadline ≠ 0 then some r.deadline else none, items := items }
    else .error .badValue

/-! ### PROPOSE (R148, R149) -/

/-- A PROPOSE body as read: the kind's arguments before validation. -/
inductive RawChange where
  | setBudget (normal derated : Nat)
  | setCeiling (channel ceiling : Nat)
  | setChannelTiming (channel rampWindow holdoff retryLimit pgInput : Nat)
  | setHostCap (host cap : Nat)
  | setLease (period : Nat)
  | setQueueAge (age : Nat)
  | setAveraging (exponent : Nat)
  | clearChannelFault (channel : Nat)
  | forceRelease (channel number : Nat)
  | resetPart
  deriving DecidableEq, Repr

/-- The kind byte picks the arguments; none for an unknown kind or a wrong length (R148, first check). -/
def readChange : List Byte → Option RawChange
  | [] => none
  | kind :: args =>
    match kind.toNat, args with
    | 0, [a, b, c, d] => some (.setBudget (word2 a b) (word2 c d))
    | 1, [c, a, b] => some (.setCeiling c.toNat (word2 a b))
    | 2, [c, a, b, d, e, l, p] => some (.setChannelTiming c.toNat (word2 a b) (word2 d e) l.toNat p.toNat)
    | 3, [h, a, b] => some (.setHostCap h.toNat (word2 a b))
    | 4, [a, b] => some (.setLease (word2 a b))
    | 5, [a, b] => some (.setQueueAge (word2 a b))
    | 6, [n] => some (.setAveraging n.toNat)
    | 7, [c] => some (.clearChannelFault c.toNat)
    | 8, [c, a, b] => some (.forceRelease c.toNat (word2 a b))
    | 9, [] => some .resetPart
    | _, _ => none

/-- The blocking ages R143 allows. -/
def blockingAgeOk (a : Nat) : Bool := a == 0 || decide (100 ≤ a ∧ a ≤ 60000)

/-- The validation of FORCE_RELEASE's grant number against the table (R149). -/
def State.forceCheck (s : State) (proposer : HostId) (c : ChanId) (n : Nat) : Except Reason Change :=
  if n = 0 then .error .badValue
  else
    match s.slot c with
    | none => .error .badState
    | some g =>
      if g.number ≠ n ∨ (s.chan c).state = .discharging then .error .badState
      else if g.owner = proposer then .error .notOwner
      else .ok (.forceRelease c n)

/-- The validation of a proposal's arguments by kind (R149). -/
def State.validate (s : State) (proposer : HostId) : RawChange → Except Reason Change
  | .setBudget n d =>
    if n ≤ Config.powerMax ∧ d ≤ Config.powerMax ∧ d ≤ n then .ok (.setBudget n d) else .error .badValue
  | .setCeiling c v =>
    match channelOf c with
    | none => .error .badChannel
    | some c => if 1 ≤ v ∧ v ≤ Config.amountMax then .ok (.setCeiling c v) else .error .badValue
  | .setChannelTiming c r o l p =>
    match channelOf c with
    | none => .error .badChannel
    | some c =>
      if 10 ≤ r ∧ r ≤ 1000 ∧ 100 ≤ o ∧ o ≤ 30000 ∧ l ≤ 7 ∧ p ≤ 1 then .ok (.setChannelTiming c r o l (p == 1))
      else .error .badValue
  | .setHostCap h v =>
    if hh : h < 4 then (if v ≤ Config.powerMax then .ok (.setHostCap ⟨h, hh⟩ v) else .error .badValue)
    else .error .badValue
  | .setLease p => if 500 ≤ p ∧ p ≤ 60000 then .ok (.setLease p) else .error .badValue
  | .setQueueAge a => if blockingAgeOk a then .ok (.setQueueAge a) else .error .badValue
  | .setAveraging n => if n ≤ 7 then .ok (.setAveraging n) else .error .badValue
  | .clearChannelFault c =>
    match channelOf c with
    | none => .error .badChannel
    | some c => if (s.chan c).state = .faulted then .ok (.clearChannelFault c) else .error .badState
  | .forceRelease c n =>
    match channelOf c with
    | none => .error .badChannel
    | some c => s.forceCheck proposer c n
  | .resetPart => .ok .resetPart

/-! ### Samples (R98, R99) -/

/-- A reading beyond either end of its range takes the end value (R98). -/
def saturate (lo hi x : Int) : Int := max lo (min hi x)

/-- The sample of a reading, each value in its range (R98). -/
def sampleOf (r : Reading) : Reading where
  current := saturate (-32768) 32767 r.current
  output := saturate 0 6000 r.output
  bus := saturate 0 6000 r.bus
  pg := r.pg

/-- The power of a sample: bus voltage times current over 1000, rounded toward zero (R99). -/
def powerOf (r : Reading) : Int := (r.bus * r.current).tdiv 1000

end Sys2Proof.Machine
end

