-- ==== Sys2Proof/Machine/Flags.lean ====
section
/-! DEFINITION. The predicates and counts the spec judges: the output predicates (R73), the severe test (R107), the overdraw
count (R105), the verdict (R109), blocking of the head (R54) and admissibility (R49). -/

namespace Sys2Proof.Machine

/-! ### Of a sample -/

/-- Output off: 20 × output voltage below the bus voltage (R73). -/
def outputOff (r : Reading) : Bool := decide (20 * r.output < r.bus)

/-- Output good: 10 × output voltage at least 9 × bus voltage, and PG high when pg-input use is on (R73). -/
def outputGood (pgInput : Bool) (r : Reading) : Bool := decide (9 * r.bus ≤ 10 * r.output) && (!pgInput || r.pg)

/-- The severe test: power above twice the ceiling, or a current magnitude above 30000 (R107). -/
def severe (ceiling : Nat) (r : Reading) : Bool :=
  decide (2 * (ceiling : Int) < powerOf r) || decide (Config.severeCurrent < r.current.natAbs)

/-- The overdraw count of an ON channel after a sample (R105). -/
def overdrawAfter (limit : Nat) (power : Int) (count : Nat) : Nat :=
  if (limit : Int) < power then min (count + Config.overdrawRise) Config.overdrawFull else count - 1

/-- The overdraw count of channel c after a sample: kept in ON alone (R105, R108). -/
def State.countAfter (s : State) (c : ChanId) (r : Reading) : Nat :=
  if (s.chan c).state = .on then overdrawAfter (s.effectiveLimit c) (powerOf r) (s.measure c).overdraw
  else (s.measure c).overdraw

/-- The verdict of a sample of channel c, by the channel's state at the arrival (R109). -/
def State.verdict (s : State) (c : ChanId) (r : Reading) : Verdict :=
  match (s.chan c).state with
  | .on =>
    if severe (s.settings c).ceiling r then .severe
    else if s.countAfter c r = Config.overdrawFull then .overdraw
    else .none
  | .ramping => if severe (s.settings c).ceiling r then .severe else .none
  | _ => .none

/-- The sample would be the eighth consecutive one in IDLE without the output off (R74). -/
def State.idleLimitReached (s : State) (c : ChanId) (r : Reading) : Bool :=
  (s.chan c).state == .idle && !outputOff r && decide (Config.idleFaultLimit ≤ (s.chan c).idleFaults + 1)

/-! ### Of the wait queue -/

/-- The sum of an entry's amounts (R39). -/
def WaitEntry.sum (e : WaitEntry) : Nat := (e.items.map Item.amount).sum

/-- The entry names channel c. -/
def WaitEntry.names (c : ChanId) (e : WaitEntry) : Bool := e.items.any (·.channel == c)

/-- The host and tag that name an entry (R39, R44). -/
def WaitEntry.key (e : WaitEntry) : HostId × Byte := (e.host, e.tag)

/-- The entry's age in whole milliseconds (R39). -/
def WaitEntry.age (now : Nat) (e : WaitEntry) : Nat := (now - e.born) / Config.slotsPerMs

/-- The expiry of the entry's deadline timer (R57). -/
def WaitEntry.deadlineAt (e : WaitEntry) : Option Nat := e.deadline.map fun d => e.born + ms d

/-- Blocking judged afresh for the present head (R54). -/
def WaitQueue.judge (now blockingAge : Nat) (q : WaitQueue) : WaitQueue :=
  match q.entries with
  | [] => { q with headBlocking := false, blockingTimer := none }
  | e :: _ =>
    if blockingAge = 0 then { q with headBlocking := false, blockingTimer := none }
    else if ms blockingAge ≤ now - e.born then { q with headBlocking := true, blockingTimer := none }
    else { q with headBlocking := false, blockingTimer := some (e.born + ms blockingAge) }

/-- Every channel the items name is IDLE and holds no grant (R49, first line). -/
def State.channelsFree (s : State) (items : List Item) : Bool :=
  items.all fun i => (s.chan i.channel).state == .idle && (s.slot i.channel).isNone

/-- The entry is admissible at this moment (R49). -/
def State.admissible (s : State) (e : WaitEntry) : Bool :=
  s.channelsFree e.items && decide (e.sum ≤ s.free) && decide (s.hostReserved e.host + e.sum ≤ s.cap e.host)

end Sys2Proof.Machine
end

