-- ==== Sys2Proof/Machine/Queue.lean ====
section
/-! DEFINITION. Shared operations of the wait queue and of admission: placing and removing entries (R41), blocking (R54),
issuing grant numbers (R21), creating grants (R23) and the admission scan (R50). -/

namespace Sys2Proof.Machine

/-! ### Entries -/

/-- Blocking judged afresh (R54). -/
def State.judgeHead (s : State) : State := { s with queue := s.queue.judge s.now s.config.blockingAge }

/-- The queue's entries replaced; blocking is judged afresh when the head changed (R54). -/
def State.setEntries (es : List WaitEntry) (s : State) : State :=
  let t := { s with queue := { s.queue with entries := es } }
  if es.head? = s.queue.entries.head? then t else t.judgeHead

/-- A new entry directly behind the last entry of equal or higher priority, at the head when there is none (R41). -/
def placeEntry (e : WaitEntry) : List WaitEntry → List WaitEntry
  | [] => [e]
  | x :: rest =>
    if (x :: rest).all (fun y => decide (y.priority < e.priority)) then e :: x :: rest else x :: placeEntry e rest

/-- An entry placed at its ordered position (R45, R46). -/
def State.place (e : WaitEntry) (s : State) : State := s.setEntries (placeEntry e s.queue.entries)

/-- An entry taken out of its position (R41). -/
def State.takeOut (e : WaitEntry) (s : State) : State := s.setEntries (s.queue.entries.erase e)

/-- Every entry that `p` picks removed, with no notice. -/
def State.dropEntries (p : WaitEntry → Bool) (s : State) : State :=
  s.setEntries (s.queue.entries.filter fun e => !p e)

/-- CLAIM_FAILED to the hosts of some entries, in their order (R64). -/
def State.postFailed (cause : FailCause) (es : List WaitEntry) (s : State) : State :=
  es.foldl (fun t e => t.post e.host (.claimFailed e.tag cause)) s

/-- Every entry that `p` picks removed, walking from the head, with CLAIM_FAILED to its host (R59 to R61, R67). -/
def State.failEntries (p : WaitEntry → Bool) (cause : FailCause) (s : State) : State :=
  (s.postFailed cause (s.queue.entries.filter p)).dropEntries p

/-! ### Admission -/

/-- The grant number after `n` (R21). -/
def nextGrantNumber (n : Nat) : Nat := if n < Config.grantNumberMax then n + 1 else 1

/-- The numbers of the grants now held. -/
def State.heldNumbers (s : State) : List Nat := allChannels.filterMap fun c => (s.slot c).map Grant.number

/-- The first number from `n` on that is not held, skipping at most `fuel` held ones (R21). -/
def issueNumber : Nat → List Nat → Nat → Nat
  | 0, _, n => n
  | fuel + 1, held, n => if held.contains n then issueNumber fuel held (nextGrantNumber n) else n

/-- The number the next grant is issued (R21): at most eight numbers are held. -/
def State.issued (s : State) : Nat := issueNumber 8 s.heldNumbers s.grants.nextNumber

/-- The counter advanced past an issued number (R21). -/
def State.withNextNumber (n : Nat) (s : State) : State := { s with grants := { s.grants with nextNumber := n } }

/-- The grant an entry's item makes (R23). -/
def State.grantFor (s : State) (e : WaitEntry) (i : Item) : Grant where
  number := s.issued
  owner := e.host
  epoch := (s.session e.host).epoch
  tag := e.tag
  amount := i.amount
  priority := e.priority
  cause := none

/-- One grant created for an item: slot, list, totals, channel to CHECKING, ring and peak restarted (R23). -/
def State.createGrant (e : WaitEntry) (i : Item) (s : State) : State :=
  s.withNextNumber (nextGrantNumber s.issued)
    |>.withSlot i.channel (fun _ => some (s.grantFor e i))
    |>.withAdmission (· ++ [i.channel])
    |>.withReserved (· + i.amount)
    |>.withHostReserved e.host (· + i.amount)
    |>.withChannel i.channel (fun ch => { ch with state := .checking, retries := 0, idleFaults := 0 })
    |>.withMeasure i.channel (Measurement.restart s.config.averaging)

/-- The grants of an entry's items created in item order, with their numbers (R23). -/
def State.createGrants (e : WaitEntry) : List Item → State → State × List Nat
  | [], s => (s, [])
  | i :: rest, s =>
    let r := (s.createGrant e i).createGrants e rest
    (r.1, s.issued :: r.2)

/-- An entry admitted: its grants created, the entry removed (R51). -/
def State.admitEntry (e : WaitEntry) (s : State) : State × List Nat :=
  let r := s.createGrants e e.items
  (r.1.takeOut e, r.2)

/-- What a scan did with the claim being answered (R47, R48). -/
inductive Fate where
  | unseen
  | passedOver
  | admitted (grants : List Nat)
  deriving DecidableEq, Repr

/-- The walk of the queue (R50). `claim` names the claim being answered by the event, if any; `passed` says that some entry
before this one was passed over, so that this one is not the head. -/
def scanWalk (claim : Option (HostId × Byte)) : List WaitEntry → Bool → State × Fate → State × Fate
  | [], _, r => r
  | e :: rest, passed, (s, fate) =>
    if passed && s.queue.headBlocking then (s, fate)
    else if s.admissible e then
      let r := s.admitEntry e
      if claim = some e.key then scanWalk claim rest passed (r.1, .admitted r.2)
      else scanWalk claim rest passed (r.1.post e.host (.claimAdmitted e.tag r.2), fate)
    else scanWalk claim rest true (s, if claim = some e.key then .passedOver else fate)

/-- The admission scan of an event that answers no claim (R52). -/
def State.scanQueue (s : State) : State := (scanWalk none s.queue.entries false (s, .unseen)).1

/-- The admission scan of a CLAIM's event, with what it did with the claim (R47). -/
def State.scanFor (h : HostId) (tag : Byte) (s : State) : State × Fate :=
  scanWalk (some (h, tag)) s.queue.entries false (s, .unseen)

/-- Entries removed with CLAIM_FAILED, and one scan after the last removal when there was one (R59, R60). -/
def State.failAndScan (p : WaitEntry → Bool) (cause : FailCause) (s : State) : State :=
  if s.queue.entries.any p then (s.failEntries p cause).scanQueue else s

end Sys2Proof.Machine
end

