-- ==== Sys2Proof/Machine/Intake.lean ====
section
/-! DEFINITION. The intake arbiter and dispatch (R185, R186), shared by every request row, and the row for unknown kinds. -/

namespace Sys2Proof.Machine

/-- The frame the arbiter takes next: that of the first port, counting from the pointer upward and wrapping from 3 to 0,
whose buffer holds one; none while RESET is held low (R185). -/
def State.nextFrame (s : State) : Option (HostId × Frame) :=
  if s.pins.resetLow then none
  else [s.pointer, s.pointer + 1, s.pointer + 2, s.pointer + 3].findSome? fun h => (s.port h).buffer.map fun f => (h, f)

/-- The taking of port h's frame: the buffer emptied and the pointer set to the port after (R185). -/
def State.takeFrame (h : HostId) (s : State) : State :=
  { s.withPort h (fun p => { p with buffer := none }) with pointer := h + 1 }

/-- The lease of an attached host restarted with the lease period as it stands (R134). -/
def State.renewLease (h : HostId) (s : State) : State :=
  if s.attached h then s.withSession h (fun r => { r with lease := some (s.now + ms s.config.leasePeriod) }) else s

/-- Milliseconds left on host h's lease timer, 0 when it is stopped (R126). -/
def State.leaseRemaining (s : State) (h : HostId) : Nat := (s.session h).lease.elim 0 s.remaining

/-- ATTACH and QUERY_PART are handled in every session state (R127, R186). -/
def RequestKind.servedAlways : RequestKind → Bool
  | .queryPart | .attach => true
  | .detach | .renew | .readSession | .readBudget | .claim | .cancel | .readQueue | .resize | .release | .clearTrip
  | .readChannel | .readTally | .readConfig | .readProposal | .propose | .consent | .dissent | .withdraw => false

/-- Dispatch of a frame of kind `k` just taken from port h: the lease renewed before any handling, then the request
handled, or answered NOT_ATTACHED (R134, R186). A CLEAR_TRIP taken after its owner's teardown is answered NOT_ATTACHED here, by
R136, R138 and R186, where R96's third row says NOT_OWNER (DESIGN CHOICE, log entry 32); so are a RESIZE, where R38's fifth row
says BAD_STATE or NOT_OWNER, and a READ_CHANNEL with clear peak, where R113's sixth row says NOT_OWNER (DESIGN CHOICE, log
entry 34). -/
def State.dispatch (k : RequestKind) (handle : HostId → Frame → State → State) (h : HostId) (f : Frame) (s : State) : State :=
  if k.servedAlways || s.attached h then handle h f (s.renewLease h) else s.refuse h f .notAttached

/-- A request row: the arbiter takes the next frame, which is of kind `k`, and it is dispatched and handled in the same
event (R185, R186). When the next frame is of another kind, or there is none, the row's event is not at hand and nothing
changes (log entry 4). -/
def State.taking (k : RequestKind) (handle : HostId → Frame → State → State) (s : State) : State :=
  match s.nextFrame with
  | none => s
  | some (h, f) => if kindOf f.kind = some k then (s.takeFrame h).dispatch k handle h f else s

/-- A frame of an unknown kind: the lease of an attached host renewed, then REFUSED BAD_REQUEST in every session state
(R134, R186). -/
def State.takingUnknown (s : State) : State :=
  match s.nextFrame with
  | none => s
  | some (h, f) =>
    if kindOf f.kind = none then ((s.takeFrame h).renewLease h).refuse h f .badRequest else s

/-- A request that has no body: BAD_VALUE for a body of one or more bytes, else answered. -/
def State.bodiless (h : HostId) (f : Frame) (answer : State → State) (s : State) : State :=
  if f.body = [] then answer s else s.refuse h f .badValue

/-- UNKNOWN_REQUEST_KIND (R186). -/
def execUnknownRequestKind (s : State) : Host.Outcome State Fault Refusal := .next s.takingUnknown

end Sys2Proof.Machine
end

