-- ==== Sys2Proof/Machine/Claims.lean ====
section
/-! DEFINITION. The requests and timers of the wait queue: CLAIM (R43), CANCEL (R58), READ_QUEUE (R65), the blocking timer
(R54) and the deadlines (R57). -/

namespace Sys2Proof.Machine

/-! ### CLAIM -/

/-- The static checks of R44 after its first two lines, in its order. -/
def State.claimRefusal (s : State) (h : HostId) (tag : Byte) (cl : Claim) : Option Reason :=
  if cl.items.any (fun i => decide ((s.settings i.channel).ceiling < i.amount)) then some .overCeiling
  else if cl.items.any (fun i => (s.chan i.channel).state == .faulted) then some .channelFaulted
  else if cl.items.any (fun i => s.holds h i.channel) then some .alreadyHeld
  else if s.queue.entries.any (fun e => e.host == h && (e.tag == tag || cl.items.any fun i => e.names i.channel)) then
    some .duplicate
  else if s.cap h < (cl.items.map Item.amount).sum then some .overHostCap
  else none

/-- The entry a claim makes (R39); `arrival` is the stamp of a WAIT claim. -/
def State.entryFor (s : State) (h : HostId) (tag : Byte) (cl : Claim) (arrival : Nat) : WaitEntry where
  host := h
  tag := tag
  priority := cl.priority
  items := cl.items
  deadline := cl.deadline
  arrival := arrival
  born := s.now

/-- The arrival counter advanced, from 65535 to 0 (R40). -/
def State.advanceArrival (s : State) : State :=
  { s with queue := { s.queue with nextArrival := (s.queue.nextArrival + 1) % Config.arrivals } }

/-- No room for a WAIT claim of host h (R45). -/
def State.queueFull (s : State) (h : HostId) : Bool :=
  decide (Config.queueCapacity ≤ s.queue.entries.length) ||
    decide (Config.queuePerHost ≤ s.queue.entries.countP (·.host == h))

/-- A channel named by the items holds a grant of another host (R48). -/
def State.heldByOther (s : State) (h : HostId) (items : List Item) : Bool :=
  items.any fun i => (s.slot i.channel).isSome && !s.holds h i.channel

/-- A WAIT claim placed, scanned and answered (R45, R47). -/
def State.claimWait (h : HostId) (f : Frame) (cl : Claim) (s : State) : State :=
  if s.queueFull h then s.refuse h f .queueFull
  else
    let e := s.entryFor h f.tag cl s.queue.nextArrival
    let r := (s.place e).advanceArrival.scanFor h f.tag
    match r.2 with
    | .admitted grants => r.1.respond h f (.claimAdmitted grants)
    | .unseen | .passedOver => r.1.respond h f (.claimQueued (r.1.queue.entries.idxOf e + 1))

/-- A NO_WAIT claim placed for its own scan, answered, and taken out again when not admitted (R46, R48). -/
def State.claimNoWait (h : HostId) (f : Frame) (cl : Claim) (s : State) : State :=
  let e := s.entryFor h f.tag cl 0
  let r := (s.place e).scanFor h f.tag
  match r.2 with
  | .admitted grants => r.1.respond h f (.claimAdmitted grants)
  | .unseen | .passedOver =>
    (r.1.takeOut e).respond h f
      (.refused (if r.1.heldByOther h cl.items then .channelHeld else .noBudget) (r.2 == .unseen))

/-- The handling of CLAIM (R43, R44). -/
def handleClaim (h : HostId) (f : Frame) (s : State) : State :=
  match claimFields f.body with
  | .error r => s.refuse h f r
  | .ok cl =>
    match s.claimRefusal h f.tag cl with
    | some r => s.refuse h f r
    | none => if cl.waits then s.claimWait h f cl else s.claimNoWait h f cl

/-- CLAIM (R43). -/
def execClaim (s : State) : Host.Outcome State Fault Refusal := .next (s.taking .claim handleClaim)

/-! ### CANCEL -/

/-- The waiting entry of a host with a tag. -/
def State.entryOf (s : State) (h : HostId) (tag : Byte) : Option WaitEntry := s.queue.entries.find? (·.key == (h, tag))

/-- The handling of CANCEL (R58). -/
def handleCancel (h : HostId) (f : Frame) (s : State) : State :=
  match f.body with
  | [tag] =>
    match s.entryOf h tag with
    | none => s.refuse h f .noSuchClaim
    | some e => ((s.takeOut e).scanQueue).respond h f (.cancel tag)
  | _ => s.refuse h f .badValue

/-- CANCEL (R58). -/
def execCancel (s : State) : Host.Outcome State Fault Refusal := .next (s.taking .cancel handleCancel)

/-! ### READ_QUEUE -/

/-- The entries of host h described, positions counted from `pos` (R65). -/
def State.queueReports (s : State) (h : HostId) : Nat → List WaitEntry → List QueueReport
  | _, [] => []
  | pos, e :: rest =>
    if e.host = h then
      { tag := e.tag, position := pos, priority := e.priority, blocking := pos == 1 && s.queue.headBlocking,
        arrival := e.arrival, age := min (e.age s.now) Config.ageMax, remaining := e.deadlineAt.elim 0 s.remaining,
        items := e.items } :: s.queueReports h (pos + 1) rest
    else s.queueReports h (pos + 1) rest

/-- The handling of READ_QUEUE (R65). -/
def handleReadQueue (h : HostId) (f : Frame) (s : State) : State :=
  s.bodiless h f fun t =>
    t.respond h f (.readQueue t.queue.entries.length (t.queueReports h 1 t.queue.entries))

/-- READ_QUEUE (R65). -/
def execReadQueue (s : State) : Host.Outcome State Fault Refusal := .next (s.taking .readQueue handleReadQueue)

/-! ### Timers -/

/-- BLOCKING_TIMER_EXPIRY (R54): the head becomes blocking, and nothing else changes. -/
def execBlockingTimerExpiry (s : State) : Host.Outcome State Fault Refusal :=
  .next <|
    match s.queue.blockingTimer with
    | none => s
    | some t =>
      let u := s.reach t
      { u with queue := { u.queue with headBlocking := true, blockingTimer := none } }

/-- DEADLINE_EXPIRY (R57): the entry is removed with CLAIM_FAILED EXPIRED, and a scan follows. -/
def execDeadlineExpiry (h : HostId) (tag : Byte) (s : State) : Host.Outcome State Fault Refusal :=
  .next <|
    match s.entryOf h tag with
    | none => s
    | some e =>
      match e.deadlineAt with
      | none => s
      | some t => (((s.reach t).takeOut e).post h (.claimFailed tag .expired)).scanQueue

end Sys2Proof.Machine
end

