-- ==== Sys2Proof/Machine/Grants.lean ====
section
/-! DEFINITION. Shared operations on grants: the end of a grant (R31), a channel's entry to FAULTED (R88) and the release of
a grant from every cause (R30). -/

namespace Sys2Proof.Machine

/-- GRANT_ENDED to the owner under R30's condition; a grant released at teardown posts none. -/
def State.postEnded (c : ChanId) (g : Grant) (s : State) : State :=
  match g.cause with
  | none => s
  | some .teardown => s
  | some k => s.postOwner g (.grantEnded c g.number k)

/-- The records of a grant that ends: slot, admission list, totals, and the channel at rest (R31, R8). -/
def State.removeGrant (c : ChanId) (g : Grant) (after : ChanState) (s : State) : State :=
  s.withReleasing (fun n => if (s.chan c).state = .discharging then n - g.amount else n)
    |>.withReserved (· - g.amount)
    |>.withHostReserved g.owner (· - g.amount)
    |>.withSlot c (fun _ => none)
    |>.withAdmission (·.erase c)
    |>.withChannel c (fun _ => Channel.rest after)

/-- CLOSING ends for a host found to hold no grant (R139). At a lease expiry that leaves the host none this is the event of the
expiry itself (R135), where R136's first row has the host CLOSING after it (DESIGN CHOICE, log entry 35). -/
def State.endClosing (h : HostId) (s : State) : State :=
  if (s.session h).state = .closing ∧ s.holdsAny h = false then
    s.withSession h (fun r => { r with state := .detached })
  else s

/-- CHANNEL_FAULTED broadcast, then the entries naming the channel removed (R59, R92). -/
def State.announceFault (c : ChanId) (s : State) : State :=
  (s.broadcast (.channelFaulted c)).failAndScan (WaitEntry.names c) .channelFaulted

/-- A channel enters FAULTED with no grant in the event (R74, R88). -/
def State.faultIdle (c : ChanId) (s : State) : State :=
  (s.withChannel c fun _ => Channel.rest .faulted).announceFault c

/-- A grant ends and its channel goes IDLE (R31): notice, scan, then the session unit is told. -/
def State.endToIdle (c : ChanId) (s : State) : State :=
  match s.slot c with
  | none => s
  | some g => (((s.removeGrant c g .idle).postEnded c g).scanQueue).endClosing g.owner

/-- A grant ends and its channel goes FAULTED (R31): notice, scan, fault broadcast and removals, then the session unit is
told. -/
def State.endToFaulted (c : ChanId) (s : State) : State :=
  match s.slot c with
  | none => s
  | some g => ((((s.removeGrant c g .faulted).postEnded c g).scanQueue).announceFault c).endClosing g.owner

/-- The release cause of a grant recorded (R19). -/
def State.markCause (c : ChanId) (k : ReleaseCause) (s : State) : State :=
  s.withSlot c (Option.map fun g => { g with cause := some k })

/-- GRANT_REVOKED to the owner at a release with cause SHED, FORCED or RESET (R32). -/
def State.postRevoked (c : ChanId) (g : Grant) (k : ReleaseCause) (s : State) : State :=
  match k with
  | .shed | .forced | .reset => s.postOwner g (.grantRevoked c g.number k)
  | .released | .teardown | .switchFault => s

/-- The discharge of a released grant begins (R86): gate off, discharge window started, overdraw count 0, its amount in the
releasing total. -/
def State.startDischarge (c : ChanId) (g : Grant) (s : State) : State :=
  s.withChannel c (fun ch =>
      { ch with state := .discharging, gate := false,
                timer := some { kind := .discharge, expiry := s.now + ms Config.dischargeWindow } })
    |>.withMeasure c (fun m => { m with overdraw := 0 })
    |>.withReleasing (· + g.amount)

/-- A release of channel c's grant taken (R30). A channel that holds no grant, or is DISCHARGING already, is passed over. -/
def State.releaseGrant (c : ChanId) (k : ReleaseCause) (s : State) : State :=
  match s.slot c with
  | none => s
  | some g =>
    match (s.chan c).state with
    | .checking | .holdoff | .latched => ((s.markCause c k).postRevoked c g k).endToIdle c
    | .ramping | .on => ((s.markCause c k).postRevoked c g k).startDischarge c g
    | .idle | .discharging | .faulted => s

/-- Every grant that `p` picks released in turn, walking the admission list as it stands at the start from its head, and
passing over DISCHARGING channels (R34, R36). -/
def State.releaseAll (p : Grant → Bool) (k : ReleaseCause) (s : State) : State :=
  s.grants.admission.foldl
    (fun t c => match t.slot c with
      | none => t
      | some g => if p g then t.releaseGrant c k else t) s

end Sys2Proof.Machine
end

