-- ==== Sys2Proof/Machine/GrantRequests.lean ====
section
/-! DEFINITION. The requests of the grant table: RESIZE (R26 to R28) and RELEASE (R29). -/

namespace Sys2Proof.Machine

/-- The grant's amount replaced, with the totals moved from the old amount to the new (R27, R28). -/
def State.setAmount (c : ChanId) (g : Grant) (amount : Nat) (s : State) : State :=
  s.withSlot c (Option.map fun r => { r with amount := amount })
    |>.withReserved (fun n => n + amount - g.amount)
    |>.withHostReserved g.owner (fun n => n + amount - g.amount)

/-- The OK response of a RESIZE (R26). -/
def State.resized (h : HostId) (f : Frame) (c : ChanId) (number amount : Nat) (s : State) : State :=
  s.respond h f (.resize c number amount (s.effectiveLimit c))

/-- A resize up judged against cap, free budget and a blocking head (R28). -/
def State.resizeUp (h : HostId) (f : Frame) (c : ChanId) (g : Grant) (amount : Nat) (s : State) : State :=
  if s.cap h < s.hostReserved h + (amount - g.amount) then s.refuse h f .overHostCap
  else if s.free < amount - g.amount ∨ s.queue.headBlocking = true then
    s.respond h f (.refused .noBudget s.queue.headBlocking)
  else (s.setAmount c g amount).resized h f c g.number amount

/-- A RESIZE whose body names a channel and a new amount (R26). -/
def State.resizeChecked (h : HostId) (f : Frame) (c : ChanId) (amount : Nat) (s : State) : State :=
  match s.slot c with
  | none => s.refuse h f .notOwner
  | some g =>
    if s.owns h c = false then s.refuse h f .notOwner
    else if (s.chan c).state = .discharging then s.refuse h f .badState
    else if ¬(1 ≤ amount ∧ amount ≤ Config.amountMax) then s.refuse h f .badValue
    else if (s.settings c).ceiling < amount then s.refuse h f .overCeiling
    else if amount = g.amount then s.resized h f c g.number amount
    else if amount < g.amount then ((s.setAmount c g amount).scanQueue).resized h f c g.number amount
    else s.resizeUp h f c g amount

/-- The handling of RESIZE (R26). -/
def handleResize (h : HostId) (f : Frame) (s : State) : State :=
  match f.body with
  | [c, hi, lo] =>
    match channelOf c.toNat with
    | none => s.refuse h f .badChannel
    | some c => s.resizeChecked h f c (word2 hi lo)
  | _ => s.refuse h f .badValue

/-- RESIZE (R26). -/
def execResize (s : State) : Host.Outcome State Fault Refusal := .next (s.taking .resize handleResize)

/-- A RELEASE whose body names a channel (R29). -/
def State.releaseChecked (h : HostId) (f : Frame) (c : ChanId) (s : State) : State :=
  match s.slot c with
  | none => s.refuse h f .notOwner
  | some g =>
    if s.owns h c = false then s.refuse h f .notOwner
    else
      match (s.chan c).state with
      | .checking | .holdoff | .latched => (s.releaseGrant c .released).respond h f (.release c g.number .ended)
      | .ramping | .on => (s.releaseGrant c .released).respond h f (.release c g.number .discharging)
      | .discharging => s.refuse h f .badState
      | .idle | .faulted => s.refuse h f .notOwner

/-- The handling of RELEASE (R29). -/
def handleRelease (h : HostId) (f : Frame) (s : State) : State :=
  match readChannelField f.body with
  | .error r => s.refuse h f r
  | .ok c => s.releaseChecked h f c

/-- RELEASE (R29). -/
def execRelease (s : State) : Host.Outcome State Fault Refusal := .next (s.taking .release handleRelease)

end Sys2Proof.Machine
end

