-- ==== Sys2Proof/Machine/Link.lean ====
section
/-! DEFINITION. The transactions of the host ports: STATUS (R180), unknown codes (R179), REQUEST (R183), PEEK (R173), TAKE
(R174), the fixing of the outbox head (R188), and QUERY_PART (R187). -/

namespace Sys2Proof.Machine

/-! ### Select -/

/-- A transaction that begins on port h, with its status byte composed (R179, R180). -/
def State.begun (s : State) (h : HostId) : Selection where
  status := s.statusByte h
  spares := false

/-- The fall of select on port h: a transaction begins (R179). While select is low there is no fall (log entry 4). -/
def State.selectFall (h : HostId) (s : State) : State :=
  match (s.port h).select with
  | some _ => s
  | none => s.withPort h fun p => { p with select := some (s.begun h) }

/-- Port h's transaction: the one in progress, or one that begins here when no fall was a command of its own, and the whole
transaction falls together (log entry 10). -/
def State.transaction (s : State) (h : HostId) : Selection := (s.port h).select.getD (s.begun h)

/-- The status byte of port h's transaction (R180). -/
def State.statusShown (s : State) (h : HostId) : Byte := (s.transaction h).status

/-- The rise of select on port h, which ends the transaction (R179). -/
def Port.deselected (p : Port) : Port := { p with select := none, fix := none }

/-- The rise of select, with the bytes the part clocked out in the transaction. -/
def State.selectRise (h : HostId) (bytes : List Byte) (s : State) : State :=
  s.withPort h fun p => { p.deselected with sdo := bytes }

/-- The first byte, the port status byte, and `n` further bytes of 00h (R179). -/
def State.statusAndZeros (s : State) (h : HostId) (n : Nat) : List Byte := s.statusShown h :: List.replicate n 0#8

/-- STATUS (R180): the status byte is clocked out and nothing else changes. Cut short within its first byte it has no effect
(R179). -/
def execStatus (h : HostId) (e : Edge Nat) (s : State) : Host.Outcome State Fault Refusal :=
  .next <|
    match e with
    | .fall => s.selectFall h
    | .rise bits =>
      if bits < 8 then s.withPort h Port.deselected else s.selectRise h (s.statusAndZeros h (bits / 8 - 1))

/-- UNKNOWN_TRANSACTION (R179): acts as STATUS, with 00h for every further byte. A transaction whose code is known is not this
event (log entry 4). -/
def execUnknownTransaction (h : HostId) (code : Byte) (e : Edge Nat) (s : State) : Host.Outcome State Fault Refusal :=
  .next <|
    if transactionOf code = .unknown then
      match e with
      | .fall => s.selectFall h
      | .rise further => s.selectRise h (s.statusAndZeros h further)
    else s

/-! ### REQUEST -/

/-- The frame bytes make no frame: fewer than 3, a length above 24, a number of bytes other than 4 + length, or an
unfinished byte (R183). -/
def malformed (frame : List Byte) (stray : Fin 8) : Bool :=
  match frame with
  | _ :: _ :: len :: _ => decide (Config.bodyMax < len.toNat) || frame.length != 4 + len.toNat || stray != 0
  | _ => true

/-- The judgement of a REQUEST at the rise of select, the first line that applies (R183). With a frame held and 3 or more responses
waiting it is BUFFER_BUSY, as R183 and R191 have it, where R169 says FULL (DESIGN CHOICE, log entry 36). -/
def State.judgeRequest (s : State) (h : HostId) (frame : List Byte) (stray : Fin 8) : FrameResult :=
  if s.ready = false then .notReady
  else if malformed frame stray then .malformed
  else if crc frame ≠ 0#8 then .checkError
  else if (s.port h).buffer.isSome then .bufferBusy
  else if Config.responseCapacity ≤ (s.outbox h).countP OutEntry.isResponse then .full
  else .accepted

/-- A whole frame as its kind, tag and body (R181). -/
def frameOf : List Byte → Option Frame
  | kind :: tag :: len :: rest => some { kind := kind, tag := tag, body := rest.take len.toNat }
  | _ => none

/-- A REQUEST ends (R183): the result is written, and an accepted frame is placed in the input buffer; the part has clocked out
00h after the status byte (R179). -/
def State.endRequest (h : HostId) (frame : List Byte) (stray : Fin 8) (s : State) : State :=
  s.withPort h fun p =>
    { p.deselected with
      result := s.judgeRequest h frame stray,
      buffer := if s.judgeRequest h frame stray = .accepted then frameOf frame else p.buffer,
      sdo := s.statusAndZeros h frame.length }

/-- REQUEST (R183). -/
def execRequest (h : HostId) (e : Edge (List Byte)) (stray : Fin 8) (s : State) : Host.Outcome State Fault Refusal :=
  .next <|
    match e with
    | .fall => s.selectFall h
    | .rise frame => s.endRequest h frame stray

/-! ### PEEK and TAKE -/

/-- The outbox head as a PEEK or TAKE fixes it (R188). -/
def State.headFix (s : State) (h : HostId) : HeadFix where
  entry := (s.outbox h).head?

/-- OUTBOX_HEAD_FIX (R188): select is low by then. A transaction fixes its head once, so with a head fixed there is no such
event (log entries 4 and 11). -/
def execOutboxHeadFix (h : HostId) (s : State) : Host.Outcome State Fault Refusal :=
  .next <|
    match (s.port h).fix with
    | some _ => s
    | none => s.withPort h fun p => { p with select := some (s.transaction h), fix := some (s.headFix h) }

/-- The head fixed for the transaction that ends: the one fixed at its code, or the present one when no fixing was a command of
its own (log entry 11). -/
def State.fixed (s : State) (h : HostId) : HeadFix := (s.port h).fix.getD (s.headFix h)

/-- The bytes clocked out after the first in a PEEK or TAKE: the frame, and 00h beyond its check byte (R188). -/
def HeadFix.clockedOut (x : HeadFix) (clocked : Nat) : List Byte :=
  (headFrame x.entry ++ List.replicate clocked 0#8).take clocked

/-- A PEEK or TAKE ends on port h with so many whole bytes clocked after the code. -/
def State.endFetch (h : HostId) (clocked : Nat) (s : State) : State :=
  s.selectRise h (s.statusShown h :: (s.fixed h).clockedOut clocked)

/-- PEEK (R173): the outbox is left as it is. -/
def execPeek (h : HostId) (e : Edge Nat) (s : State) : Host.Outcome State Fault Refusal :=
  .next <|
    match e with
    | .fall => s.selectFall h
    | .rise clocked => s.endFetch h clocked

/-- The outbox after a TAKE clocked the whole frame of entry `e`, its head: the entry removed, or a marker reduced by the
count clocked out and removed at 0 (R174). -/
def takeHead (e : OutEntry) : List OutEntry → List OutEntry
  | [] => []
  | head :: rest =>
    match e, head with
    | .notice (.noticesLost k), .notice (.noticesLost n) =>
      if n ≤ k then rest else .notice (.noticesLost (n - k)) :: rest
    | _, _ => rest

/-- The outbox after a TAKE that ends: changed only when the whole frame was clocked and the entry is still there (R174). -/
def HeadFix.taken (x : HeadFix) (clocked : Nat) (box : List OutEntry) : List OutEntry :=
  match x.entry with
  | none => box
  | some e => if e.frame.length ≤ clocked then takeHead e box else box

/-- TAKE (R174). A TAKE in progress at a flush or at the fall of RESET removes nothing (R175, R177, R190). That this holds of a
TAKE whose head is fixed after the flush is the model's choice (DESIGN CHOICE, log entry 33). -/
def execTake (h : HostId) (e : Edge Nat) (s : State) : Host.Outcome State Fault Refusal :=
  .next <|
    match e with
    | .fall => s.selectFall h
    | .rise clocked =>
      (s.endFetch h clocked).withOutbox h fun box =>
        if (s.transaction h).spares then box else (s.fixed h).taken clocked box

/-! ### QUERY_PART -/

/-- The handling of QUERY_PART (R187). -/
def handleQueryPart (h : HostId) (f : Frame) (s : State) : State := s.bodiless h f fun t => t.respond h f (.queryPart h)

/-- QUERY_PART (R187). -/
def execQueryPart (s : State) : Host.Outcome State Fault Refusal := .next (s.taking .queryPart handleQueryPart)

end Sys2Proof.Machine
end

