-- ==== Sys2Proof/Machine/Budget.lean ====
section
/-! DEFINITION. The budget account: the DERATE filter (R3), recomputation of the total (R6), shedding (R11) and
READ_BUDGET (R16). -/

namespace Sys2Proof.Machine

/-! ### Shedding -/

/-- The grant shedding takes next among some channels, oldest first: lowest priority, then the youngest (R11). -/
def State.shedChoice (s : State) : List ChanId → Option (ChanId × Nat)
  | [] => none
  | c :: younger =>
    match s.slot c with
    | none => s.shedChoice younger
    | some g =>
      if (s.chan c).state = .discharging then s.shedChoice younger
      else
        match s.shedChoice younger with
        | none => some (c, g.priority)
        | some (d, p) => if p ≤ g.priority then some (d, p) else some (c, g.priority)

/-- Shedding (R11): one grant at a time, at most `fuel` of them, until the held total is within the total. -/
def State.shed : Nat → State → State
  | 0, s => s
  | fuel + 1, s =>
    if s.held ≤ s.budget.total then s
    else
      match s.shedChoice s.grants.admission with
      | none => s
      | some (c, _) => (s.releaseGrant c .shed).shed fuel

/-! ### The total budget -/

/-- The total budget replaced. -/
def State.withTotal (n : Nat) (s : State) : State := { s with budget := { s.budget with total := n } }

/-- BUDGET_CHANGED with the figures as they stand (R14). -/
def State.postBudget (cause : BudgetCause) (s : State) : State :=
  s.broadcast (.budgetChanged s.budget.total s.budget.reserved cause)

/-- The total recomputed and handled (R6): a fall sheds down to it and is broadcast, a rise is broadcast and scanned. -/
def State.recompute (cause : BudgetCause) (s : State) : State :=
  let t := s.withTotal s.selectedLevel
  if t.budget.total < s.budget.total then (t.shed t.grants.admission.length).postBudget cause
  else if s.budget.total < t.budget.total then (t.postBudget cause).scanQueue
  else t

/-! ### The DERATE filter -/

/-- The taken level and the hold timer replaced. -/
def State.withFilter (taken : Bool) (hold : Option Nat) (s : State) : State :=
  { s with budget := { s.budget with derateTaken := taken, derateHold := hold } }

/-- The filter observes the pin: stopped at the taken level, else the hold timer starts from zero (R3). -/
def State.observeDerate (s : State) : State :=
  s.withFilter s.budget.derateTaken
    (if s.pins.derate = s.budget.derateTaken then none else some (s.now + ms Config.derateHold))

/-- DERATE_PIN_CHANGE (R3): a change of level starts or cancels the hold timer; while RESET is held low the filter is
stopped and only the pin moves (R4). A level the pin has already is no change. -/
def execDeratePinChange (level : Bool) (s : State) : Host.Outcome State Fault Refusal :=
  .next <|
    if level = s.pins.derate then s
    else
      let t := { s with pins := { s.pins with derate := level } }
      if s.pins.resetLow then t else t.observeDerate

/-- The cause of a DERATE taking (R5). -/
def derateCause (level : Bool) : BudgetCause := if level then .derateAsserted else .derateCleared

/-- DERATE_HOLD_EXPIRY (R3, R5): the other level is taken and the total recomputed. With the timer stopped there is no
expiry. -/
def execDerateHoldExpiry (s : State) : Host.Outcome State Fault Refusal :=
  .next <|
    match s.budget.derateHold with
    | none => s
    | some t =>
      ((s.reach t).withFilter (!s.budget.derateTaken) none).recompute (derateCause (!s.budget.derateTaken))

/-! ### READ_BUDGET -/

/-- The figures as they stand (R16). -/
def State.budgetReport (s : State) : BudgetReport where
  normal := s.config.normal
  derated := s.config.derated
  asserted := s.budget.derateTaken
  total := s.budget.total
  reserved := s.budget.reserved
  releasing := s.budget.releasing
  free := s.free
  waiting := s.queue.entries.length
  headBlocking := s.queue.headBlocking

/-- The handling of READ_BUDGET (R16). -/
def handleReadBudget (h : HostId) (f : Frame) (s : State) : State :=
  s.bodiless h f fun t => t.respond h f (.readBudget t.budgetReport)

/-- READ_BUDGET (R16). -/
def execReadBudget (s : State) : Host.Outcome State Fault Refusal := .next (s.taking .readBudget handleReadBudget)

end Sys2Proof.Machine
end

