-- ==== Sys2Proof/Machine/Sequencer.lean ====
section
/-! DEFINITION. The channel sequencer: what a sample does in each state (R74 to R87), trips (R81), the channel timers, and
CLEAR_TRIP (R85). -/

namespace Sys2Proof.Machine

/-! ### Notices to the owner of a channel's grant -/

/-- A notice about channel c's grant to its owner, none when the channel holds no grant (R90, R91). -/
def State.postHolder (c : ChanId) (n : Grant → Notice) (s : State) : State :=
  match s.slot c with
  | none => s
  | some g => s.postOwner g (n g)

/-! ### Trips -/

/-- The channel's state after a trip: HOLDOFF while retries are left, else LATCHED (R81). -/
def State.tripsToLatched (s : State) (c : ChanId) : Bool := decide ((s.settings c).retryLimit ≤ (s.chan c).retries)

/-- A channel record after a trip (R81). -/
def Channel.tripped (latched : Bool) (holdoffExpiry : Nat) (ch : Channel) : Channel :=
  { ch with state := if latched then .latched else .holdoff, gate := false,
            timer := if latched then none else some { kind := .holdoff, expiry := holdoffExpiry } }

/-- A trip of channel c (R81): gate off, timer cancelled, overdraw count 0, HOLDOFF or LATCHED, CHANNEL_TRIPPED. -/
def State.trip (c : ChanId) (cause : TripCause) (s : State) : State :=
  s.withChannel c (Channel.tripped (s.tripsToLatched c) (s.now + ms (s.settings c).holdoff))
    |>.withMeasure c (fun m => { m with overdraw := 0 })
    |>.postHolder c (fun g => .channelTripped c g.number cause (s.tripsToLatched c) (s.chan c).retries)

/-! ### Samples -/

/-- A sample in IDLE (R74). -/
def State.sampleIdle (c : ChanId) (off : Bool) (s : State) : State :=
  if off then s.withChannel c (fun ch => { ch with idleFaults := 0 })
  else if (s.chan c).idleFaults + 1 < Config.idleFaultLimit then
    s.withChannel c (fun ch => { ch with idleFaults := ch.idleFaults + 1 })
  else s.faultIdle c

/-- The first sample in CHECKING (R76). -/
def State.sampleChecking (c : ChanId) (off : Bool) (s : State) : State :=
  if off then
    s.withChannel c (fun ch =>
      { ch with state := .ramping, gate := true,
                timer := some { kind := .ramp, expiry := s.now + ms (s.settings c).rampWindow } })
  else (s.markCause c .switchFault).endToFaulted c

/-- A sample in RAMPING with the verdict NONE (R77). -/
def State.sampleRamping (c : ChanId) (good : Bool) (s : State) : State :=
  if good then
    (s.withChannel c (fun ch => { ch with state := .on, timer := none })).postHolder c (fun g => .channelOn c g.number)
  else s

/-- A sample in ON with the verdict NONE (R79): a good one cancels the grace timer, another starts it unless it runs. -/
def State.sampleOn (c : ChanId) (good : Bool) (s : State) : State :=
  if good then s.withChannel c (fun ch => { ch with timer := none })
  else if (s.chan c).timer.isSome then s
  else s.withChannel c (fun ch => { ch with timer := some { kind := .grace, expiry := s.now + ms Config.grace } })

/-- A sample in DISCHARGING (R87). -/
def State.sampleDischarging (c : ChanId) (off : Bool) (s : State) : State := if off then s.endToIdle c else s

/-- A sample arrives at sequencer c (R72): a trip verdict trips the channel whatever the predicates say, any other sample is
acted on by the channel's state. -/
def State.sampleArrival (c : ChanId) (off good : Bool) (v : Verdict) (s : State) : State :=
  match v with
  | .overdraw => s.trip c .overdraw
  | .severe => s.trip c .severe
  | .none =>
    match (s.chan c).state with
    | .idle => s.sampleIdle c off
    | .checking => s.sampleChecking c off
    | .ramping => s.sampleRamping c good
    | .on => s.sampleOn c good
    | .discharging => s.sampleDischarging c off
    | .holdoff | .latched | .faulted => s

/-! ### Channel timers -/

/-- The expiry of the timer of kind `k` running on channel c while its state is `st`; none when no such timer runs there. -/
def State.expiryOf (s : State) (c : ChanId) (k : TimerKind) (st : ChanState) : Option Nat :=
  match (s.chan c).timer with
  | none => none
  | some t => if t.kind = k ∧ (s.chan c).state = st then some t.expiry else none

/-- RAMP_TIMER_EXPIRY (R78). -/
def execRampTimerExpiry (c : ChanId) (s : State) : Host.Outcome State Fault Refusal :=
  .next <|
    match s.expiryOf c .ramp .ramping with
    | none => s
    | some t => (s.reach t).trip c .rampTimeout

/-- GRACE_TIMER_EXPIRY (R80). -/
def execGraceTimerExpiry (c : ChanId) (s : State) : Host.Outcome State Fault Refusal :=
  .next <|
    match s.expiryOf c .grace .on with
    | none => s
    | some t => (s.reach t).trip c .powerGoodLost

/-- HOLDOFF_TIMER_EXPIRY (R83): retries used rises, the channel goes CHECKING, CHANNEL_RETRY to the owner. -/
def execHoldoffTimerExpiry (c : ChanId) (s : State) : Host.Outcome State Fault Refusal :=
  .next <|
    match s.expiryOf c .holdoff .holdoff with
    | none => s
    | some t =>
      ((s.reach t).withChannel c fun ch => { ch with state := .checking, timer := none, retries := ch.retries + 1 })
        |>.postHolder c (fun g => .channelRetry c g.number ((s.chan c).retries + 1))

/-- DISCHARGE_TIMER_EXPIRY (R87): the grant ends with its recorded cause and the channel goes FAULTED. -/
def execDischargeTimerExpiry (c : ChanId) (s : State) : Host.Outcome State Fault Refusal :=
  .next <|
    match s.expiryOf c .discharge .discharging with
    | none => s
    | some t => (s.reach t).endToFaulted c

/-! ### CLEAR_TRIP -/

/-- A CLEAR_TRIP whose body names a channel (R85). -/
def State.clearTripChecked (h : HostId) (f : Frame) (c : ChanId) (s : State) : State :=
  match s.slot c with
  | none => s.refuse h f .notOwner
  | some g =>
    if s.owns h c = false then s.refuse h f .notOwner
    else
      match (s.chan c).state with
      | .holdoff | .latched =>
        (s.withChannel c fun ch => { ch with state := .checking, timer := none, retries := 0 })
          |>.respond h f (.clearTrip c g.number (s.chan c).retries)
      | .idle | .checking | .ramping | .on | .discharging | .faulted => s.refuse h f .badState

/-- The handling of CLEAR_TRIP (R85). -/
def handleClearTrip (h : HostId) (f : Frame) (s : State) : State :=
  match readChannelField f.body with
  | .error r => s.refuse h f r
  | .ok c => s.clearTripChecked h f c

/-- CLEAR_TRIP (R85). -/
def execClearTrip (s : State) : Host.Outcome State Fault Refusal := .next (s.taking .clearTrip handleClearTrip)

end Sys2Proof.Machine
end

