-- ==== Sys2Proof/Machine/Measure.lean ====
section
/-! DEFINITION. The measurement unit and the tally unit: the scan (R97), the event of a slot completion (R109), the
tallies (R117), READ_CHANNEL (R110) and READ_TALLY (R122). -/

namespace Sys2Proof.Machine

/-! ### The tally unit -/

/-- A sample's power counted to a tally (R117 to R119): positive power added modulo 2^32 with the rollover counted, and the
sample counted modulo 2^32. -/
def Tally.count (power : Int) (t : Tally) : Tally where
  accumulator := (t.accumulator + power.toNat) % Config.tallyModulus
  rollovers :=
    if t.accumulator + power.toNat < Config.tallyModulus then t.rollovers
    else (t.rollovers + 1) % Config.rolloverModulus
  samples := (t.samples + 1) % Config.tallyModulus

/-- The sample of channel c counted to the owner of the grant it holds at the arrival, if any (R109, R117). -/
def State.tallySample (c : ChanId) (power : Int) (s : State) : State :=
  match s.slot c with
  | none => s
  | some g => s.withTally g.owner (Tally.count power)

/-! ### The measurement record -/

/-- A measurement record after a sample: last readings and power, ring, average and peak (R100, R101, R104). -/
def Measurement.record (exponent : Nat) (r : Reading) (m : Measurement) : Measurement :=
  let ring := m.ring.drop 1 ++ [powerOf r]
  { m with
    current := r.current, output := r.output, bus := r.bus, pg := r.pg, power := powerOf r, ring := ring,
    average := ring.sum.tdiv (2 ^ exponent), peak := max m.peak (powerOf r) }

/-! ### The scan -/

/-- The scan after the slot in progress completes: the next slot in progress, a round beginning at slot 0 as slot 7 completes,
and the clock at the completion (R97). -/
def State.advanceScan (sc : Scan) (s : State) : State :=
  { s.reach sc.ends with scan := some { slot := sc.slot + 1, ends := sc.ends + 1 } }

/-- Start-up ends at every port (R115, R180). -/
def State.endStartUp (s : State) : State := { s with ready := true }

/-- The round that the completion of slot 7 completes is counted, up to 8; the eighth ends start-up (R115). -/
def State.countRound (c : ChanId) (s : State) : State :=
  if c = 7 ∧ s.rounds < Config.startUpRounds then
    let t := { s with rounds := s.rounds + 1 }
    if t.rounds = Config.startUpRounds then t.endStartUp else t
  else s

/-! ### The slot completion -/

/-- The whole event of a sample of channel c (R109): record, ring and peak, overdraw count and verdict, tally, sequencer. -/
def State.sampleEvent (c : ChanId) (r : Reading) (s : State) : State :=
  let v := s.verdict c r
  let n := s.countAfter c r
  s.withMeasure c (fun m => { m.record s.config.averaging r with overdraw := n })
    |>.tallySample c (powerOf r)
    |>.sampleArrival c (outputOff r) (outputGood (s.settings c).pgInput r) v

/-- The completion of channel c's slot (R97, R109). Slots complete in order, so a slot that is not in progress does not
complete (log entry 3), and while RESET is held low none does. -/
def State.completeSlot (c : ChanId) (r : Reading) (s : State) : State :=
  match s.scan with
  | none => s
  | some sc => if sc.slot = c then ((s.advanceScan sc).sampleEvent c (sampleOf r)).countRound c else s

/-- SLOT_COMPLETION (R109). -/
def execSlotCompletion (c : ChanId) (r : Reading) (s : State) : Host.Outcome State Fault Refusal :=
  .next (s.completeSlot c r)

/-- The slot in progress is the one whose completion ends start-up: slot 7 of the eighth round (R115). -/
def State.lastStartUpSlot (s : State) : Bool :=
  s.scan.any (·.slot == 7) && s.rounds + 1 == Config.startUpRounds

/-- START_UP_END (R115): the slot completion that completes the eighth round. Another slot's is not this event (log entry
6). -/
def execStartUpEnd (s : State) (r : Reading := Reading.zero) : Host.Outcome State Fault Refusal :=
  .next (if s.lastStartUpSlot then s.completeSlot 7 r else s)

/-- OVERDRAW_COUNT_FULL (R105): the slot completion whose sample carries an ON channel's count to 128 with no severe test
met. Another sample is not this event (log entry 5). -/
def execOverdrawCountFull (c : ChanId) (r : Reading) (s : State) : Host.Outcome State Fault Refusal :=
  .next (if s.verdict c (sampleOf r) = .overdraw then s.completeSlot c r else s)

/-- IDLE_FAULT_LIMIT (R74): the slot completion whose sample is the eighth consecutive one in IDLE without the output off.
Another sample is not this event (log entry 5). -/
def execIdleFaultLimit (c : ChanId) (r : Reading) (s : State) : Host.Outcome State Fault Refusal :=
  .next (if s.idleLimitReached c (sampleOf r) then s.completeSlot c r else s)

/-! ### READ_CHANNEL -/

/-- What READ_CHANNEL reports of channel c (R111). -/
def State.channelReport (s : State) (c : ChanId) (cleared : Bool) : ChannelReport where
  channel := c
  state := (s.chan c).state
  grant := s.slot c
  ceiling := (s.settings c).ceiling
  limit := s.effectiveLimit c
  current := (s.measure c).current
  output := (s.measure c).output
  bus := (s.measure c).bus
  pg := (s.measure c).pg
  power := (s.measure c).power
  average := (s.measure c).average
  peak := (s.measure c).peak
  overdraw := (s.measure c).overdraw
  retries := (s.chan c).retries
  retryLimit := (s.settings c).retryLimit
  peakCleared := cleared

/-- A READ_CHANNEL whose body names a channel (R110, R112): the peak is cleared after it is reported. -/
def State.readChannelChecked (h : HostId) (f : Frame) (c : ChanId) (clear : Bool) (s : State) : State :=
  if clear then
    if s.owns h c then
      (s.withMeasure c fun m => { m with peak := 0 }).respond h f (.readChannel (s.channelReport c true))
    else s.refuse h f .notOwner
  else s.respond h f (.readChannel (s.channelReport c false))

/-- The handling of READ_CHANNEL (R110). -/
def handleReadChannel (h : HostId) (f : Frame) (s : State) : State :=
  match f.body with
  | [c, b] =>
    match flagOf b, channelOf c.toNat with
    | none, _ => s.refuse h f .badValue
    | some _, none => s.refuse h f .badChannel
    | some clear, some c => s.readChannelChecked h f c clear
  | _ => s.refuse h f .badValue

/-- READ_CHANNEL (R110). -/
def execReadChannel (s : State) : Host.Outcome State Fault Refusal := .next (s.taking .readChannel handleReadChannel)

/-! ### READ_TALLY -/

/-- The handling of READ_TALLY (R122, R123): the tally is cleared after it is reported. -/
def handleReadTally (h : HostId) (f : Frame) (s : State) : State :=
  match f.body with
  | [b] =>
    match flagOf b with
    | none => s.refuse h f .badValue
    | some clear =>
      (if clear then s.withTally h (fun _ => Tally.zero) else s).respond h f
        (.readTally (s.tally h) (s.hostReserved h) clear)
  | _ => s.refuse h f .badValue

/-- READ_TALLY (R122). -/
def execReadTally (s : State) : Host.Outcome State Fault Refusal := .next (s.taking .readTally handleReadTally)

end Sys2Proof.Machine
end

