-- ==== Sys2Proof/Machine/Resets.lean ====
section
/-! DEFINITION. Power-on and the two edges of the RESET input (R17, R37, R68, R94, R114, R141, R144, R177, R190). -/

namespace Sys2Proof.Machine

/-- The measurement record of power-on, or of the fall of RESET when `last` gives the readings kept (R114). -/
def Measurement.cleared (last : Measurement) : Measurement :=
  { last.restart Config.averagingDefault with overdraw := 0 }

/-- A measurement record with no reading yet (R100). -/
def Measurement.blank : Measurement where
  current := 0
  output := 0
  bus := 0
  pg := false
  power := 0
  ring := []
  average := 0
  peak := 0
  overdraw := 0

/-- The budget account with no grant, derate CLEAR, the filter stopped, and the total at the normal level (R17). -/
def Budget.initial (straps : BitVec 2) : Budget where
  total := Config.normalLevel straps
  reserved := 0
  releasing := 0
  derateTaken := false
  derateHold := none

/-- An empty grant table (R37). -/
def GrantTable.initial : GrantTable where
  slots := Table.const 8 none
  admission := []
  nextNumber := 1
  hostReserved := Table.const 4 0

/-- An empty wait queue (R68). -/
def WaitQueue.initial : WaitQueue where
  entries := []
  headBlocking := false
  blockingTimer := none
  nextArrival := 0

/-- A session that never was (R141). -/
def Session.initial : Session where
  state := .detached
  epoch := 0
  lease := none
  lastClose := .none

/-- A port emptied by RESET: result NONE and no frame held (R184, R190). -/
def Port.emptied (p : Port) : Port := { p with result := .none, buffer := none }

/-- A port as the fall of RESET leaves it: a transaction in progress runs on, and a TAKE that began before the fall removes
nothing (R177, R190). -/
def Port.fallen (p : Port) : Port := p.emptied.sparing

/-- Every port changed the same way. -/
def State.mapPorts (f : Port → Port) (s : State) : State := allHosts.foldl (fun t h => t.withPort h f) s

/-- Every measurement record changed the same way. -/
def State.mapMeasures (f : Measurement → Measurement) (s : State) : State :=
  allChannels.foldl (fun t c => t.withMeasure c f) s

/-- What RESET makes of every block, the ports changed as `ports` says; the scan and the filter are stopped, the last readings
kept. -/
def State.resetBlocks (ports : Port → Port) (straps : BitVec 2) (s : State) : State :=
  ({ s with
      pins := { s.pins with straps := straps },
      budget := Budget.initial straps,
      grants := GrantTable.initial,
      queue := WaitQueue.initial,
      channels := Table.const 8 (Channel.rest .idle),
      scan := none,
      tallies := Table.const 4 Tally.zero,
      sessions := Table.const 4 Session.initial,
      config := Configuration.default straps,
      proposal := none,
      nextProposal := 1,
      outboxes := Table.const 4 [],
      ready := false,
      pointer := 0 }).mapPorts ports
    |>.mapMeasures Measurement.cleared

/-- Start-up begins (R97, R115, R4): the scan at slot 0, no round counted, no reading yet, the filter observing the pin
afresh. -/
def State.beginStartUp (s : State) : State :=
  ({ s with scan := some { slot := 0, ends := s.now + 1 }, rounds := 0,
            meas := Table.const 8 Measurement.blank.cleared }).observeDerate

/-- POWER_ON (R17): every block in its initial state, no transaction in progress, start-up begun. -/
def execPowerOn (straps : BitVec 2) (s : State) : Host.Outcome State Fault Refusal :=
  .next <|
    ({ s.resetBlocks Port.emptied straps with
        pins := { straps := straps, derate := s.pins.derate, resetLow := false },
        ports := Table.const 4 { result := .none, buffer := none, select := none, fix := none, sdo := [] } }).beginStartUp

/-- RESET_FALL (R141). While RESET is low already there is no fall. -/
def execResetFall (straps : BitVec 2) (s : State) : Host.Outcome State Fault Refusal :=
  .next <|
    if s.pins.resetLow then s
    else
      let t := s.resetBlocks Port.fallen straps
      { t with pins := { t.pins with resetLow := true } }

/-- RESET_RELEASE (R190): the blocks start from their reset state and start-up begins; a transaction in progress runs on. While
RESET is high there is no release. -/
def execResetRelease (straps : BitVec 2) (s : State) : Host.Outcome State Fault Refusal :=
  .next <|
    if s.pins.resetLow then
      let t := s.resetBlocks Port.emptied straps
      ({ t with pins := { t.pins with resetLow := false } }).beginStartUp
    else s

end Sys2Proof.Machine
end

