-- ==== Sys2Proof/Machine/Consent.lean ====
section
/-! DEFINITION. The consent unit: the configuration record (R143), proposals (R146), closing and adoption (R156) with the
effect of each kind (R158 to R165), and their requests and timer. -/

namespace Sys2Proof.Machine

/-! ### Adoption effects -/

/-- The configuration record changed. -/
def State.withConfig (f : Configuration → Configuration) (s : State) : State := { s with config := f s.config }

/-- The settings of channel c changed. -/
def State.withSettings (c : ChanId) (f : ChannelConfig → ChannelConfig) (s : State) : State :=
  s.withConfig fun k => { k with channels := k.channels.upd c f }

/-- SET_BUDGET (R158). -/
def State.adoptBudget (normal derated : Nat) (s : State) : State :=
  (s.withConfig fun k => { k with normal := normal, derated := derated }).recompute .config

/-- The entry has an item on channel c above a ceiling (R60). -/
def WaitEntry.over (c : ChanId) (ceiling : Nat) (e : WaitEntry) : Bool :=
  e.items.any fun i => i.channel == c && decide (ceiling < i.amount)

/-- SET_CEILING (R159). -/
def State.adoptCeiling (c : ChanId) (ceiling : Nat) (s : State) : State :=
  (s.withSettings c fun k => { k with ceiling := ceiling }).failAndScan (WaitEntry.over c ceiling) .overCeiling

/-- SET_CHANNEL_TIMING (R160). -/
def State.adoptTiming (c : ChanId) (ramp holdoff limit : Nat) (pg : Bool) (s : State) : State :=
  s.withSettings c fun k => { k with rampWindow := ramp, holdoff := holdoff, retryLimit := limit, pgInput := pg }

/-- The entry belongs to host h and asks for more than a cap (R61). -/
def WaitEntry.overCap (h : HostId) (cap : Nat) (e : WaitEntry) : Bool := e.host == h && decide (cap < e.sum)

/-- SET_HOST_CAP (R161): one scan when an entry was removed or the cap was raised. -/
def State.adoptCap (h : HostId) (cap : Nat) (s : State) : State :=
  let t := (s.withConfig fun k => { k with caps := k.caps.upd h fun _ => cap }).failEntries (WaitEntry.overCap h cap) .overHostCap
  if s.queue.entries.any (WaitEntry.overCap h cap) || decide (s.cap h < cap) then t.scanQueue else t

/-- SET_LEASE (R162): running leases keep their expiries. -/
def State.adoptLease (period : Nat) (s : State) : State := s.withConfig fun k => { k with leasePeriod := period }

/-- SET_QUEUE_AGE (R162, R55): blocking judged afresh, and a scan when the head stops blocking. -/
def State.adoptQueueAge (age : Nat) (s : State) : State :=
  let t := (s.withConfig fun k => { k with blockingAge := age }).judgeHead
  if s.queue.headBlocking && !t.queue.headBlocking then t.scanQueue else t

/-- SET_AVERAGING (R103). -/
def State.adoptAveraging (n : Nat) (s : State) : State := (s.withConfig fun k => { k with averaging := n }).restartRings

/-- CLEAR_CHANNEL_FAULT (R163). -/
def State.adoptClearFault (c : ChanId) (s : State) : State :=
  if (s.chan c).state = .faulted then s.withChannel c fun _ => Channel.rest .idle else s

/-- FORCE_RELEASE (R164, R35): the grant is matched by its number; a DISCHARGING one is passed over. -/
def State.adoptForceRelease (c : ChanId) (number : Nat) (s : State) : State :=
  match s.slot c with
  | none => s
  | some g => if g.number = number then s.releaseGrant c .forced else s

/-- Every tally set to 0 (R120). -/
def State.zeroTallies (s : State) : State := { s with tallies := Table.const 4 Tally.zero }

/-- The straps read (R2). -/
def State.readStraps (straps : BitVec 2) (s : State) : State := { s with pins := { s.pins with straps := straps } }

/-- RESET_PART, its six steps in order, with the straps as they have just been read (R165). -/
def State.adoptResetPart (s : State) : State :=
  ((((s.failEntries (fun _ => true) .reset).releaseAll (fun _ => true) .reset).withConfig
    fun _ => Configuration.default s.pins.straps).recompute .config).restartRings.zeroTallies

/-- The effects of a change at its adoption, with the levels on the straps, which RESET_PART reads (R2, R165). -/
def State.adopt (straps : BitVec 2) (ch : Change) (s : State) : State :=
  match ch with
  | .setBudget n d => s.adoptBudget n d
  | .setCeiling c v => s.adoptCeiling c v
  | .setChannelTiming c r o l p => s.adoptTiming c r o l p
  | .setHostCap h v => s.adoptCap h v
  | .setLease p => s.adoptLease p
  | .setQueueAge a => s.adoptQueueAge a
  | .setAveraging n => s.adoptAveraging n
  | .clearChannelFault c => s.adoptClearFault c
  | .forceRelease c n => s.adoptForceRelease c n
  | .resetPart => (s.readStraps straps).adoptResetPart

/-! ### The proposal -/

/-- The proposal record replaced. -/
def State.withProposal (p : Option Proposal) (s : State) : State := { s with proposal := p }

/-- The open proposal adopted: the record emptied, the effects taken, PROPOSAL_CLOSED broadcast (R156). -/
def State.adoptProposal (straps : BitVec 2) (p : Proposal) (s : State) : State :=
  ((s.withProposal none).adopt straps p.change).broadcast (.proposalClosed p.id .adopted none)

/-- The open proposal closed with another outcome (R156). -/
def State.closeProposal (p : Proposal) (o : CloseOutcome) (dissenter : Option HostId) (s : State) : State :=
  (s.withProposal none).broadcast (.proposalClosed p.id o dissenter)

/-- The open proposal adopted when its consent set equals its electorate, else kept as it stands (R151, R155). -/
def State.settleProposal (straps : BitVec 2) (p : Proposal) (s : State) : State :=
  if p.consents = p.electorate then s.adoptProposal straps p else s.withProposal (some p)

/-- The electorate of a change: the attached hosts, less the owner of the grant a FORCE_RELEASE names (R150). -/
def State.electorateFor (s : State) (ch : Change) : HostSet :=
  allHosts.foldl
    (fun m h => m.upd h fun _ =>
      s.attached h && (match ch with
        | .forceRelease c _ => !s.holds h c
        | .setBudget .. | .setCeiling .. | .setChannelTiming .. | .setHostCap .. | .setLease _ | .setQueueAge _
        | .setAveraging _ | .clearChannelFault _ | .resetPart => true))
    (Table.const 4 false)

/-- The set of one host. -/
def HostSet.only (h : HostId) : HostSet := (Table.const 4 false).upd h fun _ => true

/-- The proposal id after `n` (R146). -/
def nextProposalId (n : Nat) : Nat := if n < Config.byteMax then n + 1 else 1

/-- The id counter advanced (R146). -/
def State.advanceProposal (s : State) : State := { s with nextProposal := nextProposalId s.nextProposal }

/-- The proposal that host h opens with a change (R150). -/
def State.proposalFor (s : State) (h : HostId) (ch : Change) : Proposal where
  id := s.nextProposal
  proposer := h
  change := ch
  electorate := s.electorateFor ch
  consents := HostSet.only h
  window := s.now + ms Config.proposalWindow

/-- PROPOSAL_OPENED to each elector other than the proposer (R150, R157). -/
def State.postOpened (p : Proposal) (s : State) : State :=
  allHosts.foldl
    (fun t k => if p.electorate.read k && k != p.proposer then t.post k (.proposalOpened p.id p.proposer p.change) else t) s

/-- A checked PROPOSE opens its proposal, which is adopted at once when the proposer is its only elector (R150). -/
def State.openProposal (straps : BitVec 2) (h : HostId) (f : Frame) (ch : Change) (s : State) : State :=
  let p := s.proposalFor h ch
  let t := s.advanceProposal
  if p.consents = p.electorate then (t.adoptProposal straps p).respond h f (.propose p.id .adopted p.electorate)
  else ((t.withProposal (some p)).postOpened p).respond h f (.propose p.id .opened p.electorate)

/-- The handling of PROPOSE (R148). -/
def handlePropose (straps : BitVec 2) (h : HostId) (f : Frame) (s : State) : State :=
  match readChange f.body with
  | none => s.refuse h f .badValue
  | some raw =>
    if s.proposal.isSome then s.refuse h f .proposalBusy
    else
      match s.validate h raw with
      | .error r => s.refuse h f r
      | .ok ch => s.openProposal straps h f ch

/-- PROPOSE (R148). -/
def execPropose (s : State) (straps : BitVec 2 := 0#2) : Host.Outcome State Fault Refusal :=
  .next (s.taking .propose (handlePropose straps))

/-- The open proposal with an id, if it is the open one's (R151). -/
def State.openWithId (s : State) (id : Nat) : Option Proposal :=
  match s.proposal with
  | none => none
  | some p => if p.id = id then some p else none

/-- A consent to the open proposal (R151). -/
def State.consentTo (straps : BitVec 2) (h : HostId) (f : Frame) (p : Proposal) (s : State) : State :=
  if p.electorate.read h = false then s.refuse h f .notElector
  else if p.consents.read h then s.respond h f (.consent p.id .opened)
  else
    let q := { p with consents := p.consents.upd h fun _ => true }
    if q.consents = q.electorate then (s.adoptProposal straps q).respond h f (.consent p.id .adopted)
    else (s.withProposal (some q)).respond h f (.consent p.id .opened)

/-- A request whose body is one proposal id: BAD_VALUE for another length, NO_PROPOSAL when it is not the open one's. -/
def State.withOpen (h : HostId) (f : Frame) (act : Proposal → State → State) (s : State) : State :=
  match f.body with
  | [id] =>
    match s.openWithId id.toNat with
    | none => s.refuse h f .noProposal
    | some p => act p s
  | _ => s.refuse h f .badValue

/-- The handling of CONSENT (R151). -/
def handleConsent (straps : BitVec 2) (h : HostId) (f : Frame) (s : State) : State :=
  s.withOpen h f fun p t => t.consentTo straps h f p

/-- CONSENT (R151). -/
def execConsent (s : State) (straps : BitVec 2 := 0#2) : Host.Outcome State Fault Refusal :=
  .next (s.taking .consent (handleConsent straps))

/-- The handling of DISSENT (R152). -/
def handleDissent (h : HostId) (f : Frame) (s : State) : State :=
  s.withOpen h f fun p t =>
    if p.electorate.read h = false then t.refuse h f .notElector
    else (t.closeProposal p .rejected (some h)).respond h f (.dissent p.id)

/-- DISSENT (R152). -/
def execDissent (s : State) : Host.Outcome State Fault Refusal := .next (s.taking .dissent handleDissent)

/-- The handling of WITHDRAW (R153). -/
def handleWithdraw (h : HostId) (f : Frame) (s : State) : State :=
  s.withOpen h f fun p t =>
    if p.proposer = h then (t.closeProposal p .withdrawn none).respond h f (.withdraw p.id) else t.refuse h f .notOwner

/-- WITHDRAW (R153). -/
def execWithdraw (s : State) : Host.Outcome State Fault Refusal := .next (s.taking .withdraw handleWithdraw)

/-- WINDOW_TIMER_EXPIRY (R154): the open proposal closes EXPIRED. With no proposal open the timer is not running. -/
def execWindowTimerExpiry (s : State) : Host.Outcome State Fault Refusal :=
  .next <|
    match s.proposal with
    | none => s
    | some p => (s.reach p.window).closeProposal p .expired none

/-! ### Teardown -/

/-- The consent unit's part in the teardown of host h (R155). -/
def State.consentTeardown (straps : BitVec 2) (h : HostId) (s : State) : State :=
  match s.proposal with
  | none => s
  | some p =>
    if p.electorate.read h = false then s
    else if p.proposer = h then s.closeProposal p .withdrawn none
    else
      s.settleProposal straps
        { p with electorate := p.electorate.upd h fun _ => false, consents := p.consents.upd h fun _ => false }

/-! ### Reading -/

/-- The handling of READ_CONFIG (R145). -/
def handleReadConfig (h : HostId) (f : Frame) (s : State) : State :=
  match f.body with
  | [part, c] =>
    if part = 0#8 then
      s.respond h f (.readGlobal s.config.normal s.config.derated s.config.caps s.config.leasePeriod s.config.blockingAge
        s.config.averaging)
    else if part = 1#8 then
      match channelOf c.toNat with
      | none => s.refuse h f .badChannel
      | some c => s.respond h f (.readChannelConfig c (s.settings c))
    else s.refuse h f .badValue
  | _ => s.refuse h f .badValue

/-- READ_CONFIG (R145). -/
def execReadConfig (s : State) : Host.Outcome State Fault Refusal := .next (s.taking .readConfig handleReadConfig)

/-- What READ_PROPOSAL reports of the open proposal (R147); the window remaining is at least 1 (log entry 14). -/
def State.proposalReport (s : State) (p : Proposal) : ProposalReport where
  id := p.id
  proposer := p.proposer
  change := p.change
  electorate := p.electorate
  consents := p.consents
  remaining := max 1 (s.remaining p.window)

/-- The handling of READ_PROPOSAL (R147). -/
def handleReadProposal (h : HostId) (f : Frame) (s : State) : State :=
  s.bodiless h f fun t => t.respond h f (.readProposal (t.proposal.map t.proposalReport))

/-- READ_PROPOSAL (R147). -/
def execReadProposal (s : State) : Host.Outcome State Fault Refusal := .next (s.taking .readProposal handleReadProposal)

end Sys2Proof.Machine
end

