-- ==== Sys2Proof/Machine/Sessions.lean ====
section
/-! DEFINITION. The session unit: ATTACH (R130), DETACH (R131), RENEW (R132), READ_SESSION (R133), lease expiry (R135) and
teardown (R137). -/

namespace Sys2Proof.Machine

/-- Host h's outbox flushed: every entry removed, and a TAKE in progress removes nothing when it ends (R175). A transaction is in
progress from the fall of select (R179), whether or not its head is fixed by then (DESIGN CHOICE, log entry 33). -/
def State.flush (h : HostId) (s : State) : State := (s.withOutbox h fun _ => []).withPort h Port.sparing

/-- The wait queue's part in the teardown of host h: its entries removed with no notice, one scan after the last (R66). -/
def State.queueTeardown (h : HostId) (s : State) : State :=
  if s.queue.entries.any (·.host == h) then (s.dropEntries (·.host == h)).scanQueue else s

/-- Teardown of host h, its four steps in order (R137). -/
def State.teardown (straps : BitVec 2) (h : HostId) (s : State) : State :=
  (((s.queueTeardown h).releaseAll (·.owner == h) .teardown).consentTeardown straps h).endClosing h

/-- Host h goes from ATTACHED to CLOSING: lease stopped, cause recorded, outbox flushed, teardown run (R131, R135). -/
def State.closeSession (straps : BitVec 2) (h : HostId) (cause : CloseCause) (s : State) : State :=
  ((s.withSession h fun r => { r with state := .closing, lease := none, lastClose := cause }).flush h).teardown straps h

/-- The number of host h's grants still held, all DISCHARGING after its teardown (R131). -/
def State.grantsOf (s : State) (h : HostId) : Nat := allChannels.countP (s.holds h)

/-- The epoch after `n` (R128). -/
def nextEpoch (n : Nat) : Nat := if n < Config.byteMax then n + 1 else 1

/-- A session opened (R130): ATTACHED, next epoch, lease started, tally zeroed. -/
def State.openSession (h : HostId) (s : State) : State :=
  (s.withSession h fun r =>
      { r with state := .attached, epoch := nextEpoch r.epoch, lease := some (s.now + ms s.config.leasePeriod) })
    |>.withTally h (fun _ => Tally.zero)

/-- The handling of ATTACH by the state of the session (R130). After a lease expiry that left the host no grant the state is
DETACHED and the ATTACH is taken, where R136's first row answers BUSY (DESIGN CHOICE, log entry 35). -/
def handleAttach (h : HostId) (f : Frame) (s : State) : State :=
  match (s.session h).state with
  | .detached =>
    if f.body = [] then
      (s.openSession h).respond h f
        (.attach (nextEpoch (s.session h).epoch) s.config.leasePeriod (s.session h).lastClose)
    else s.refuse h f .badValue
  | .attached => s.refuse h f .badState
  | .closing => s.refuse h f .busy

/-- ATTACH (R130). -/
def execAttach (s : State) : Host.Outcome State Fault Refusal := .next (s.taking .attach handleAttach)

/-- The handling of DETACH (R131). -/
def handleDetach (straps : BitVec 2) (h : HostId) (f : Frame) (s : State) : State :=
  s.bodiless h f fun t =>
    let u := t.closeSession straps h .detached
    u.respond h f (.detach (u.session h).epoch (u.session h).state (u.grantsOf h))

/-- DETACH (R131). -/
def execDetach (s : State) (straps : BitVec 2 := 0#2) : Host.Outcome State Fault Refusal :=
  .next (s.taking .detach (handleDetach straps))

/-- The handling of RENEW (R132): the taking has renewed the lease. -/
def handleRenew (h : HostId) (f : Frame) (s : State) : State :=
  s.bodiless h f fun t => t.respond h f (.renew t.config.leasePeriod)

/-- RENEW (R132). -/
def execRenew (s : State) : Host.Outcome State Fault Refusal := .next (s.taking .renew handleRenew)

/-- The handling of READ_SESSION (R133); `left` is the time left on the lease before this taking renewed it. -/
def handleReadSession (left : HostId → Nat) (h : HostId) (f : Frame) (s : State) : State :=
  s.bodiless h f fun t => t.respond h f (.readSession (t.session h).epoch t.config.leasePeriod (left h))

/-- READ_SESSION (R133). -/
def execReadSession (s : State) : Host.Outcome State Fault Refusal :=
  .next (s.taking .readSession (handleReadSession s.leaseRemaining))

/-- LEASE_EXPIRY (R135): taken for an attached host whose lease timer runs. -/
def execLeaseExpiry (h : HostId) (s : State) (straps : BitVec 2 := 0#2) : Host.Outcome State Fault Refusal :=
  .next <|
    if s.attached h then
      match (s.session h).lease with
      | none => s
      | some t => (s.reach t).closeSession straps h .expired
    else s

end Sys2Proof.Machine
end

