-- ==== Sys2Proof/Machine/Dispatch.lean ====
section
/-! DEFINITION. The command's meaning, one arm per row of the table. -/

namespace Sys2Proof.Machine

/-- The effect of a command on everything but the queue of commands. -/
def exec (i : Instr) (s : State) : Host.Outcome State Fault Refusal :=
  match i with
  | .powerOn straps => Sys2Proof.Machine.execPowerOn straps s
  | .resetFall straps => Sys2Proof.Machine.execResetFall straps s
  | .resetRelease straps => Sys2Proof.Machine.execResetRelease straps s
  | .startUpEnd r => Sys2Proof.Machine.execStartUpEnd s r
  | .deratePinChange level => Sys2Proof.Machine.execDeratePinChange level s
  | .derateHoldExpiry => Sys2Proof.Machine.execDerateHoldExpiry s
  | .slotCompletion c r => Sys2Proof.Machine.execSlotCompletion c r s
  | .overdrawCountFull c r => Sys2Proof.Machine.execOverdrawCountFull c r s
  | .idleFaultLimit c r => Sys2Proof.Machine.execIdleFaultLimit c r s
  | .rampTimerExpiry c => Sys2Proof.Machine.execRampTimerExpiry c s
  | .graceTimerExpiry c => Sys2Proof.Machine.execGraceTimerExpiry c s
  | .holdoffTimerExpiry c => Sys2Proof.Machine.execHoldoffTimerExpiry c s
  | .dischargeTimerExpiry c => Sys2Proof.Machine.execDischargeTimerExpiry c s
  | .leaseExpiry h straps => Sys2Proof.Machine.execLeaseExpiry h s straps
  | .windowTimerExpiry => Sys2Proof.Machine.execWindowTimerExpiry s
  | .blockingTimerExpiry => Sys2Proof.Machine.execBlockingTimerExpiry s
  | .deadlineExpiry h tag => Sys2Proof.Machine.execDeadlineExpiry h tag s
  | .status h e => Sys2Proof.Machine.execStatus h e s
  | .unknownTransaction h code e => Sys2Proof.Machine.execUnknownTransaction h code e s
  | .request h e stray => Sys2Proof.Machine.execRequest h e stray s
  | .peek h e => Sys2Proof.Machine.execPeek h e s
  | .take h e => Sys2Proof.Machine.execTake h e s
  | .unknownRequestKind => Sys2Proof.Machine.execUnknownRequestKind s
  | .queryPart => Sys2Proof.Machine.execQueryPart s
  | .attach => Sys2Proof.Machine.execAttach s
  | .detach straps => Sys2Proof.Machine.execDetach s straps
  | .renew => Sys2Proof.Machine.execRenew s
  | .readSession => Sys2Proof.Machine.execReadSession s
  | .readBudget => Sys2Proof.Machine.execReadBudget s
  | .claim => Sys2Proof.Machine.execClaim s
  | .cancel => Sys2Proof.Machine.execCancel s
  | .readQueue => Sys2Proof.Machine.execReadQueue s
  | .resize => Sys2Proof.Machine.execResize s
  | .release => Sys2Proof.Machine.execRelease s
  | .clearTrip => Sys2Proof.Machine.execClearTrip s
  | .readChannel => Sys2Proof.Machine.execReadChannel s
  | .readTally => Sys2Proof.Machine.execReadTally s
  | .readConfig => Sys2Proof.Machine.execReadConfig s
  | .readProposal => Sys2Proof.Machine.execReadProposal s
  | .propose straps => Sys2Proof.Machine.execPropose s straps
  | .consent straps => Sys2Proof.Machine.execConsent s straps
  | .dissent => Sys2Proof.Machine.execDissent s
  | .withdraw => Sys2Proof.Machine.execWithdraw s
  | .outboxHeadFix h => Sys2Proof.Machine.execOutboxHeadFix h s

end Sys2Proof.Machine
end

