-- ==== Sys2Proof/Machine/Step.lean ====
section
/-! DEFINITION. One step: the command at the front of the queue is taken and run; with none waiting, time passes. -/

namespace Sys2Proof.Machine

/-- One step of the part (log entries 1 and 22). -/
def step (s : State) : Host.Outcome State Fault Refusal :=
  match s.pending with
  | [] => .next s.idleTick
  | i :: rest => exec i { s with pending := rest }

/-- The command a table word spells put at the front of the queue; the table gives no row bits, so no word spells one
(log entry 22). -/
def State.withFetchWord (s : State) (nbits w : Nat) : State :=
  match decodeTableWord nbits w with
  | none => s
  | some i => { s with pending := i :: s.pending }

end Sys2Proof.Machine
end

