-- ==== Sys2Proof/Safety.lean ====
section
/-! DEFINITION. What counts as a safe step and a safe run of the part, and the laws the spec says every state keeps, in the
terms the claims use. -/

namespace Sys2Proof

open Machine

/-- The step from `s` gives a next state: it ends in no fault and no refusal. -/
def SafeStep (s : State) : Prop := ∃ t, step s = .next t

/-- `k` steps from `s` give a state. -/
def SafeRun (k : Nat) (s : State) : Prop := ∃ t, core.run k s = .next t

/-- A law that every step keeps, from every state that has it. -/
def Kept (law : State → Prop) : Prop := ∀ s t, law s → step s = .next t → law t

/-! ### Channels and grants -/

/-- A channel's gate is on exactly when the channel is in RAMPING or ON (R71). -/
def GateLaw (s : State) : Prop :=
  ∀ c, (s.chan c).gate = true ↔ ((s.chan c).state = .ramping ∨ (s.chan c).state = .on)

/-- A channel in IDLE or FAULTED holds no grant, a channel in any other state holds one (R20). -/
def SlotLaw (s : State) : Prop :=
  ∀ c, s.slot c = none ↔ ((s.chan c).state = .idle ∨ (s.chan c).state = .faulted)

/-- The channels of one waiting entry are distinct (R39). -/
def ItemsLaw (s : State) : Prop := ∀ e ∈ s.queue.entries, (e.items.map Item.channel).Nodup

/-- The admission list holds no duplicates and its members are the grants in the slots (R22). -/
def AdmissionLaw (s : State) : Prop :=
  s.grants.admission.Nodup ∧ ∀ c, c ∈ s.grants.admission ↔ (s.slot c).isSome = true

/-- The slots, the admission list and the waiting entries as R20, R22 and R39 have them. -/
def TableLaw (s : State) : Prop := SlotLaw s ∧ AdmissionLaw s ∧ ItemsLaw s

/-- The amount held in slot c, 0 when it is empty. -/
def amountIn (s : State) (c : ChanId) : Nat := (s.slot c).elim 0 Grant.amount

/-- The sum over the channels that `p` picks of the amounts held. -/
def sumOver (s : State) (p : ChanId → Bool) : Nat := ((allChannels.filter p).map (amountIn s)).sum

/-- The running totals are the sums R8 and R25 say they are. -/
def AccountLaw (s : State) : Prop :=
  s.budget.reserved = sumOver s (fun _ => true) ∧
  s.budget.releasing = sumOver s (fun c => (s.chan c).state == .discharging) ∧
  ∀ h, s.hostReserved h = sumOver s (s.holds h)

/-- Every amount a waiting entry asks for is at least 1 (R39). -/
def PositiveLaw (s : State) : Prop := ∀ e ∈ s.queue.entries, ∀ i ∈ e.items, 1 ≤ i.amount

/-- The first part of the law of the budget (R10): the amounts of the grants not DISCHARGING sum to no more than the
total. -/
def WithinTotal (s : State) : Prop := sumOver s (fun c => (s.chan c).state != .discharging) ≤ s.budget.total

/-- The law of the budget with the laws of the table it rests on. -/
def BudgetLaw (s : State) : Prop := TableLaw s ∧ AccountLaw s ∧ PositiveLaw s ∧ WithinTotal s

/-- The total budget is the level the derate state selects (R6). -/
def TotalLaw (s : State) : Prop := s.budget.total = s.selectedLevel

/-- Grant numbers lie in 1–65535, the counter too, and no two grants held share a number (R21). -/
def NumberLaw (s : State) : Prop :=
  (1 ≤ s.grants.nextNumber ∧ s.grants.nextNumber ≤ Config.grantNumberMax) ∧
  (∀ c g, s.slot c = some g → 1 ≤ g.number ∧ g.number ≤ Config.grantNumberMax) ∧
  ∀ c d g k, s.slot c = some g → s.slot d = some k → g.number = k.number → c = d

/-! ### Measurement -/

/-- The overdraw count is below 128 after every event and 0 whenever the channel is not ON (R105). -/
def OverdrawLaw (s : State) : Prop :=
  ∀ c, (s.measure c).overdraw < Config.overdrawFull ∧ ((s.chan c).state ≠ .on → (s.measure c).overdraw = 0)

/-- Every averaging ring holds exactly 2^N powers (R101). -/
def RingLaw (s : State) : Prop := ∀ c, (s.measure c).ring.length = 2 ^ s.config.averaging

/-- No peak is below 0 (R104). -/
def PeakLaw (s : State) : Prop := ∀ c, 0 ≤ (s.measure c).peak

/-- The tallies lie in their ranges (R116). -/
def TallyLaw (s : State) : Prop :=
  ∀ h, (s.tally h).accumulator < Config.tallyModulus ∧ (s.tally h).rollovers < Config.rolloverModulus ∧
    (s.tally h).samples < Config.tallyModulus

/-! ### The wait queue -/

/-- At most 12 entries and 4 of any one host, in order of priority, each of an ATTACHED host (R41). -/
def QueueLaw (s : State) : Prop :=
  s.queue.entries.length ≤ Config.queueCapacity ∧
  (∀ h, s.queue.entries.countP (·.host == h) ≤ Config.queuePerHost) ∧
  s.queue.entries.Pairwise (fun a b => b.priority ≤ a.priority) ∧
  ∀ e ∈ s.queue.entries, s.attached e.host = true

/-- Two waiting entries of one host carry different tags and name no channel in common, and no entry names a channel on which
its own host holds a grant, or a FAULTED one (R42, R44). -/
def NamingLaw (s : State) : Prop :=
  s.queue.entries.Pairwise (fun a b => a.host = b.host →
    a.tag ≠ b.tag ∧ ∀ i ∈ a.items, ∀ j ∈ b.items, i.channel ≠ j.channel) ∧
  ∀ e ∈ s.queue.entries, ∀ i ∈ e.items, s.holds e.host i.channel = false ∧ (s.chan i.channel).state ≠ .faulted

/-- The stored judgement of the head (R54): with no head or a blocking age of 0 nothing blocks and no timer runs; else the
head has waited the blocking age and blocks, or its blocking timer runs to the instant at which it will have. -/
def BlockingLaw (s : State) : Prop :=
  match s.queue.entries with
  | [] => s.queue.headBlocking = false ∧ s.queue.blockingTimer = none
  | e :: _ =>
    if s.config.blockingAge = 0 then s.queue.headBlocking = false ∧ s.queue.blockingTimer = none
    else
      (s.queue.headBlocking = true ∧ s.queue.blockingTimer = none ∧ ms s.config.blockingAge ≤ s.now - e.born) ∨
      (s.queue.headBlocking = false ∧ s.queue.blockingTimer = some (e.born + ms s.config.blockingAge))

/-! ### Sessions and owners -/

/-- The lease timer runs in ATTACHED and is stopped in DETACHED and CLOSING (R126). -/
def LeaseLaw (s : State) : Prop := ∀ h, (s.session h).lease.isSome = s.attached h

/-- The owner of a grant whose channel is in CHECKING, RAMPING, ON, HOLDOFF or LATCHED is ATTACHED in the grant's epoch
(R71). -/
def OwnerLaw (s : State) : Prop :=
  ∀ c g, s.slot c = some g → (s.chan c).state ≠ .discharging → s.ownerPresent g = true

/-- The laws of owners with those they rest on. -/
def OwnershipLaw (s : State) : Prop := TableLaw s ∧ OwnerLaw s ∧ ∀ e ∈ s.queue.entries, s.attached e.host = true

/-! ### Consent and configuration -/

/-- The open proposal's consent set is contained in its electorate, its electorate in the set of ATTACHED hosts, and its
proposer is in the consent set (R146). -/
def ConsentLaw (s : State) : Prop :=
  ∀ p, s.proposal = some p →
    p.consents.read p.proposer = true ∧
    (∀ h, p.consents.read h = true → p.electorate.read h = true) ∧
    ∀ h, p.electorate.read h = true → s.attached h = true

/-- The settings of a channel lie in their ranges (R143). -/
def ChannelConfig.InRange (k : ChannelConfig) : Prop :=
  (1 ≤ k.ceiling ∧ k.ceiling ≤ Config.amountMax) ∧ (10 ≤ k.rampWindow ∧ k.rampWindow ≤ 1000) ∧
  (100 ≤ k.holdoff ∧ k.holdoff ≤ 30000) ∧ k.retryLimit ≤ 7

/-- Every field of the configuration record lies in its range (R143). -/
def Configuration.InRange (k : Configuration) : Prop :=
  (k.normal ≤ Config.powerMax ∧ k.derated ≤ k.normal) ∧ (∀ c, ChannelConfig.InRange (k.channels.read c)) ∧
  (∀ h, k.caps.read h ≤ Config.powerMax) ∧ (500 ≤ k.leasePeriod ∧ k.leasePeriod ≤ 60000) ∧
  blockingAgeOk k.blockingAge = true ∧ k.averaging ≤ 7

/-- The arguments of a change lie in the ranges R149 validates. -/
def Change.InRange : Change → Prop
  | .setBudget n d => n ≤ Config.powerMax ∧ d ≤ n
  | .setCeiling _ v => 1 ≤ v ∧ v ≤ Config.amountMax
  | .setChannelTiming _ r o l _ => (10 ≤ r ∧ r ≤ 1000) ∧ (100 ≤ o ∧ o ≤ 30000) ∧ l ≤ 7
  | .setHostCap _ v => v ≤ Config.powerMax
  | .setLease p => 500 ≤ p ∧ p ≤ 60000
  | .setQueueAge a => blockingAgeOk a = true
  | .setAveraging n => n ≤ 7
  | .clearChannelFault _ | .forceRelease _ _ | .resetPart => True

/-- The configuration record is in range, and so is the change of an open proposal (R143, R149). -/
def ConfigLaw (s : State) : Prop :=
  Configuration.InRange s.config ∧ ∀ p, s.proposal = some p → Change.InRange p.change

/-- The timer a channel record runs, by its state (R70). -/
def Channel.TimerFits (ch : Channel) : Prop :=
  match ch.state with
  | .idle | .checking | .latched | .faulted => ch.timer = none
  | .ramping => ∃ e, ch.timer = some { kind := .ramp, expiry := e }
  | .on => ch.timer = none ∨ ∃ e, ch.timer = some { kind := .grace, expiry := e }
  | .discharging => ∃ e, ch.timer = some { kind := .discharge, expiry := e }
  | .holdoff => ∃ e, ch.timer = some { kind := .holdoff, expiry := e }

/-- A channel record: the timer its state runs; retries used 0–7, 0 in IDLE and FAULTED, below 7 in HOLDOFF, whose retry
is still to come; the idle-fault count below 8, and 0 outside IDLE (R70, R74, R81, R82). -/
def Channel.Legal (ch : Channel) : Prop :=
  Channel.TimerFits ch ∧ ch.retries ≤ 7 ∧ (ch.state = .idle ∨ ch.state = .faulted → ch.retries = 0) ∧
    (ch.state = .holdoff → ch.retries < 7) ∧ ch.idleFaults < Config.idleFaultLimit ∧
    (ch.state ≠ .idle → ch.idleFaults = 0)

/-- Every channel record is legal, with the configuration in range that it rests on (R70, R82). -/
def RecordLaw (s : State) : Prop := ConfigLaw s ∧ ∀ c, Channel.Legal (s.chan c)

/-! ### Outboxes and ports -/

/-- The number of responses in an outbox. -/
def responses (box : List OutEntry) : Nat := box.countP OutEntry.isResponse

/-- The number of notices in an outbox, a marker included. -/
def notices (box : List OutEntry) : Nat := box.countP OutEntry.isNotice

/-- A marker is the youngest notice present, and so the only marker (R169). -/
def MarkerYoungest (box : List OutEntry) : Prop :=
  ∀ front e back, box = front ++ e :: back → e.isMarker = true → back.any OutEntry.isNotice = false

/-- Undelivered responses plus a held frame are at most 4, notices at most 4, a marker the youngest notice (R169). -/
def OutboxLaw (s : State) : Prop :=
  ∀ h, responses (s.outbox h) + (s.port h).buffer.isSome.toNat ≤ Config.responseCapacity ∧
    notices (s.outbox h) ≤ Config.noticeCapacity ∧ MarkerYoungest (s.outbox h)

/-! ### Start-up, and RESET held low -/

/-- The scan runs except while RESET is held low, at most eight rounds are counted, and READY is 1 exactly when the scan runs
and all eight are (R97, R115, R190). -/
def StartUpLaw (s : State) : Prop :=
  s.scan.isSome = !s.pins.resetLow ∧ s.rounds ≤ Config.startUpRounds ∧
    (s.ready = true ↔ s.pins.resetLow = false ∧ s.rounds = Config.startUpRounds)

/-- While RESET is held low every block stands in its reset state: the budget account empty at the normal level with the
filter stopped (R17, R4), no grant and the counter at 1 (R37), an empty queue (R68), every channel IDLE with no readings in
its ring (R94, R114), no scan (R97), the tallies 0 (R125), every session DETACHED with epoch 0 (R141), the configuration at
its defaults (R144), no proposal and the id counter at 1 (R146), every outbox and buffer empty (R177), READY 0 and the
pointer at port 0 (R190). The result of a port is left out: a REQUEST that ends meanwhile writes it (R183). -/
def HeldLowLaw (s : State) : Prop :=
  s.pins.resetLow = true →
    s.budget =
      { total := Config.normalLevel s.pins.straps, reserved := 0, releasing := 0, derateTaken := false,
        derateHold := none } ∧
    s.grants =
      { slots := Table.const 8 none, admission := [], nextNumber := 1, hostReserved := Table.const 4 0 } ∧
    s.queue = { entries := [], headBlocking := false, blockingTimer := none, nextArrival := 0 } ∧
    (∀ c, s.chan c = Channel.rest .idle) ∧
    (∀ c, s.measure c = { s.measure c with ring := List.replicate 8 0, average := 0, peak := 0, overdraw := 0 }) ∧
    s.scan = none ∧
    (∀ h, s.tally h = { accumulator := 0, rollovers := 0, samples := 0 }) ∧
    (∀ h, s.session h = { state := .detached, epoch := 0, lease := none, lastClose := .none }) ∧
    s.config = Configuration.default s.pins.straps ∧ s.proposal = none ∧ s.nextProposal = 1 ∧
    (∀ h, s.outbox h = [] ∧ (s.port h).buffer = none) ∧ s.ready = false ∧ s.pointer = 0

/-! ### Requests, in the terms of the claims -/

/-- The frame the arbiter takes next is `f`, of kind `k`, from port h. -/
abbrev Next (k : RequestKind) (s : State) (h : HostId) (f : Frame) : Prop :=
  s.nextFrame = some (h, f) ∧ kindOf f.kind = some k

/-- The same, from an attached host. -/
abbrev Served (k : RequestKind) (s : State) (h : HostId) (f : Frame) : Prop := Next k s h f ∧ s.attached h = true

/-- The row of a request kind, with the levels on the straps where the row carries them. -/
def requestRow (straps : BitVec 2) : RequestKind → Instr
  | .queryPart => .queryPart | .attach => .attach | .detach => .detach straps | .renew => .renew
  | .readSession => .readSession | .readBudget => .readBudget | .claim => .claim | .cancel => .cancel
  | .readQueue => .readQueue | .resize => .resize | .release => .release | .clearTrip => .clearTrip
  | .readChannel => .readChannel | .readTally => .readTally | .readConfig => .readConfig
  | .readProposal => .readProposal | .propose => .propose straps | .consent => .consent straps | .dissent => .dissent
  | .withdraw => .withdraw

/-- The taking of port h's frame alone: its buffer emptied, the pointer at the port after, and the lease of an attached host
restarted (R134, R185). -/
def taken (s : State) (h : HostId) : State :=
  { s with
    ports := s.ports.upd h fun p => { p with buffer := none }
    pointer := h + 1
    sessions :=
      if s.attached h then s.sessions.upd h fun r => { r with lease := some (s.now + ms s.config.leasePeriod) }
      else s.sessions }

/-- The taking of port h's frame `f` with its response at the tail of outbox h, and nothing else changed. -/
def answered (s : State) (h : HostId) (f : Frame) (a : Answer) : State :=
  { taken s h with outboxes := s.outboxes.upd h (· ++ [.response (f.kind.truncate 7) f.tag a]) }

/-- The same with a refusal. -/
def refusedWith (s : State) (h : HostId) (f : Frame) (r : Reason) : State := answered s h f (.refused r false)

/-! ### Notices, in the terms of the claims -/

/-- Every attached host, and no other, has received its copy of a notice, and nothing else has changed (R172). -/
def Broadcast (n : Notice) (s t : State) : Prop :=
  t = { s with outboxes := t.outboxes } ∧
    ∀ h, t.outbox h = if s.attached h then arrive n (s.outbox h) else s.outbox h

/-- Every attached host has received CLAIM_FAILED for each of its waiting entries that `p` picks, from the head of the queue
on, and nothing else has changed (R59 to R61, R64, R67). -/
def Failed (p : WaitEntry → Bool) (cause : FailCause) (s t : State) : Prop :=
  t = { s with outboxes := t.outboxes } ∧
    ∀ h, t.outbox h =
      if s.attached h then
        (s.queue.entries.filter fun e => p e && e.host == h).foldl
          (fun box e => arrive (.claimFailed e.tag cause) box) (s.outbox h)
      else s.outbox h

/-- The numbers of grants issued in order: each is the first from the counter on that neither a grant of `s` nor one issued
before it holds, and the counter goes on past the last, from 65535 to 1 (R21). -/
def Numbered (nums : List Nat) (s t : State) : Prop :=
  let following := fun n : Nat => if n < 65535 then n + 1 else 1
  let counter := fun k : Nat => (nums.take k).getLast?.elim s.grants.nextNumber following
  let Held := fun k n : Nat => (∃ c g, s.slot c = some g ∧ g.number = n) ∨ n ∈ nums.take k
  (∀ k (hn : k < nums.length), ¬ Held k nums[k] ∧
    ∃ skipped, nums[k] = following^[skipped] (counter k) ∧ ∀ j < skipped, Held k (following^[j] (counter k))) ∧
  t.grants.nextNumber = counter nums.length

/-- The grants of an entry created, one per item in item order, and nothing else changed: slots, channels in CHECKING with
their rings and peaks restarted, admission list, totals and numbers (R21, R22, R23, R25). -/
def Created (e : WaitEntry) (nums : List Nat) (s t : State) : Prop :=
  nums.length = e.items.length ∧ Numbered nums s t ∧
  (∀ k (hk : k < e.items.length) (hn : k < nums.length),
    t.slot e.items[k].channel = some
      { number := nums[k], owner := e.host, epoch := (s.session e.host).epoch, tag := e.tag, amount := e.items[k].amount,
        priority := e.priority, cause := none } ∧
    t.chan e.items[k].channel =
      { s.chan e.items[k].channel with state := .checking, retries := 0, idleFaults := 0 } ∧
    t.measure e.items[k].channel =
      { s.measure e.items[k].channel with
        ring := List.replicate (2 ^ s.config.averaging) 0, average := 0, peak := 0 }) ∧
  (∀ c, c ∉ e.items.map Item.channel → t.slot c = s.slot c ∧ t.chan c = s.chan c ∧ t.measure c = s.measure c) ∧
  t.grants.admission = s.grants.admission ++ e.items.map Item.channel ∧
  (∀ k, t.hostReserved k =
    if k = e.host then s.hostReserved k + (e.items.map Item.amount).sum else s.hostReserved k) ∧
  t = { s with
        budget := { s.budget with reserved := s.budget.reserved + (e.items.map Item.amount).sum }
        grants := t.grants
        channels := t.channels
        meas := t.meas }

/-- The end of such a removal: the entries of `v` that `p` picks out of the queue, their hosts told in `w`, and one scan; `v`
itself when it has none (R59, R60). -/
def scannedWithout (p : WaitEntry → Bool) (v w : State) : State :=
  if v.queue.entries.any p then State.scanQueue (State.setEntries (v.queue.entries.filter fun e => !p e) w) else v

end Sys2Proof
end

