-- ==== Sys2Proof/Certificates/Slice0/Obligations.lean ====
section
/-! DEFINITION. The statements for the provers. Each docstring names the rules of spec/ it formalises; OBLIGATIONS.json
lists them. -/

open Sys2Proof Sys2Proof.Machine

/-! ### The step -/

/-- One step runs the command at the front of the queue on the state with the queue's rest, and with no command waiting one
unit of time passes (00_scope.md section 3.3; the model's choices, log entries 1 and 22). -/
def Obligations.StepRunsTheFrontCommand : Prop :=
  (∀ (i : Instr) (rest : List Instr) (s : State),
    step { s with pending := i :: rest } = exec i { s with pending := rest }) ∧
  ∀ s : State, s.pending = [] → step s = .next { s with now := s.now + 1 }

/-- Any number of steps from any state ends in a state, in no fault and no refusal, and no command changes the queue of the
commands that wait (the model's choices, log entries 21 and 22). -/
def Obligations.EveryRunGivesAStateAndCommandsLeaveTheQueue : Prop :=
  (∀ (k : Nat) (s : State), SafeRun k s) ∧ ∀ (i : Instr) (s t : State), exec i s = .next t → t.pending = s.pending

/-! ### Resets and start-up -/

/-- POWER_ON puts every block into its initial state with the levels of the straps, and release of RESET does the same, but
that a transaction in progress on a port runs on (R17, R37, R68, R94, R114, R125, R141, R144, R177, R190; the pins are the
model's choice, log entries 7 and 25). -/
def Obligations.PowerOnAndReleaseStartEveryBlockAfresh : Prop :=
  (∀ (straps : BitVec 2) (s : State), exec (.powerOn straps) s = .next
    { State.reset with
      pending := s.pending
      now := s.now
      pins := { straps := straps, derate := s.pins.derate, resetLow := false }
      budget :=
        { total := Config.normalLevel straps, reserved := 0, releasing := 0, derateTaken := false,
          derateHold := if s.pins.derate then some (s.now + ms 10) else none }
      config :=
        { State.reset.config with normal := Config.normalLevel straps, derated := Config.deratedLevel straps }
      scan := some { slot := 0, ends := s.now + 1 } }) ∧
  ∀ (straps : BitVec 2) (s : State), s.pins.resetLow = true →
    ∃ t, exec (.resetRelease straps) s = .next t ∧
      (∀ h, t.port h = { s.port h with result := .none, buffer := none }) ∧
      exec (.powerOn straps) s = .next { t with ports := State.reset.ports }

/-- The fall of RESET empties and stops every block, keeps the last readings of every channel and the count of rounds, and
lets a transaction in progress run on, a TAKE among them to remove nothing, whether or not its head is fixed (R17, R37, R68, R94,
R97, R114, R125, R141, R144, R146, R177, R190; that the count of rounds stands at the fall is the model's reading, log entry 6,
and that the level of DERATE is kept, log entry 7). -/
def Obligations.ResetFallEmptiesEveryBlock : Prop :=
  ∀ (straps : BitVec 2) (s : State), s.pins.resetLow = false →
    ∃ t, exec (.resetFall straps) s = .next t ∧
      (∀ h, t.port h =
        { s.port h with
          result := .none, buffer := none
          select := (s.port h).select.map fun x => { x with spares := true } }) ∧
      (∀ c, t.measure c =
        { s.measure c with ring := List.replicate 8 0, average := 0, peak := 0, overdraw := 0 }) ∧
      t = { State.reset with
            pending := s.pending
            now := s.now
            pins := { straps := straps, derate := s.pins.derate, resetLow := true }
            budget :=
              { total := Config.normalLevel straps, reserved := 0, releasing := 0, derateTaken := false,
                derateHold := none }
            config :=
              { State.reset.config with normal := Config.normalLevel straps, derated := Config.deratedLevel straps }
            scan := none
            rounds := s.rounds
            ports := t.ports
            meas := t.meas }

/-- The state after reset is the one POWER_ON gives with the straps at 00 and DERATE low, and every law of Safety holds in
it (log entry 7 for the pins). -/
def Obligations.ResetStateIsPowerOnsAndMeetsEveryLaw : Prop :=
  exec (.powerOn 0#2) State.reset = .next State.reset ∧
  GateLaw State.reset ∧ BudgetLaw State.reset ∧ TotalLaw State.reset ∧ NumberLaw State.reset ∧
  OverdrawLaw State.reset ∧ RingLaw State.reset ∧ PeakLaw State.reset ∧ TallyLaw State.reset ∧ QueueLaw State.reset ∧
  NamingLaw State.reset ∧ RecordLaw State.reset ∧
  BlockingLaw State.reset ∧ LeaseLaw State.reset ∧ OwnershipLaw State.reset ∧ ConsentLaw State.reset ∧
  ConfigLaw State.reset ∧ OutboxLaw State.reset ∧ StartUpLaw State.reset ∧ HeldLowLaw State.reset

/-- While RESET is held low every block stays in its reset state: budget, grants, queue, channels, rings and peaks, scan,
tallies, sessions, configuration, proposal, outboxes, input buffers, READY and the pointer, all but the results of the ports
and the readings. READY is 1 exactly when the scan runs and eight rounds are counted (R4, R17, R37, R68, R94, R97, R114, R115,
R125, R141, R144, R146, R177, R190). -/
def Obligations.HeldLowAndStartUpLawsKept : Prop := Kept HeldLowLaw ∧ Kept StartUpLaw

/-- Start-up ends at the completion of slot 7 of the eighth round, taken as START_UP_END or as that slot's own completion; no
other completion of the slot in progress changes READY, and the completion of slot 7 alone counts a round (R97, R115; that the
two rows are the one event is the model's reading, log entry 6). -/
def Obligations.StartUpEndsWithTheEighthRound : Prop :=
  (∀ (s : State) (sc : Scan) (r : Reading), s.scan = some sc → sc.slot = 7 → s.rounds = 7 →
    ∃ t, exec (.startUpEnd r) s = .next t ∧ exec (.slotCompletion 7 r) s = .next t ∧ t.rounds = 8 ∧ t.ready = true ∧
      t.scan = some { slot := 0, ends := sc.ends + 1 }) ∧
  ∀ (s : State) (sc : Scan) (c : ChanId) (r : Reading), s.scan = some sc → sc.slot = c → ¬ (c = 7 ∧ s.rounds = 7) →
    ∃ t, exec (.slotCompletion c r) s = .next t ∧ t.ready = s.ready ∧
      t.rounds = if c = 7 ∧ s.rounds < 8 then s.rounds + 1 else s.rounds

/-! ### The budget account -/

/-- A change of the DERATE pin starts the hold timer towards the other level or cancels it; while RESET is held low only the
pin moves; a level the pin has already is no change (R3, R4; log entries 4 and 7). -/
def Obligations.DeratePinStartsAndCancelsTheHold : Prop :=
  ∀ (s : State) (level : Bool),
    (level = s.pins.derate → exec (.deratePinChange level) s = .next s) ∧
    (level ≠ s.pins.derate →
      exec (.deratePinChange level) s = .next
        { s with
          pins := { s.pins with derate := level }
          budget :=
            if s.pins.resetLow then s.budget
            else
              { s.budget with
                derateHold := if level = s.budget.derateTaken then none else some (s.now + ms 10) } })

/-- The expiry of the hold timer takes the other level and recomputes the total. An equal total changes nothing else; a lower
one is broadcast, after shedding down to it when the held total exceeds it; a higher one is broadcast and scanned (R5, R6,
R10, R11, R14; the clock is the model's, log entry 2). -/
def Obligations.DerateTakingRecomputesTheTotal : Prop :=
  ∀ (s : State) (e new : Nat) (level : Bool) (cause : BudgetCause) (u : State),
    s.budget.derateHold = some e → level = !s.budget.derateTaken →
    new = (if level then s.config.derated else s.config.normal) →
    cause = (if level then .derateAsserted else .derateCleared) →
    u = { s with
          now := max s.now e
          budget := { s.budget with total := new, derateTaken := level, derateHold := none } } →
    (new = s.budget.total → exec .derateHoldExpiry s = .next u) ∧
    (new < s.budget.total → s.held ≤ new →
      ∃ t, exec .derateHoldExpiry s = .next t ∧ Broadcast (.budgetChanged new s.budget.reserved cause) u t) ∧
    (∀ v, new < s.budget.total → v = u.shed u.grants.admission.length →
      (∃ t, exec .derateHoldExpiry s = .next t ∧ v.budget.total = new ∧ v.budget.derateTaken = level ∧
        Broadcast (.budgetChanged new v.budget.reserved cause) v t) ∧
      (TableLaw s → AccountLaw s → PositiveLaw s → v.held ≤ new)) ∧
    (s.budget.total < new →
      ∃ t, Broadcast (.budgetChanged new s.budget.reserved cause) u t ∧
        exec .derateHoldExpiry s = .next t.scanQueue)

/-- Shedding takes, among the grants whose channel is not DISCHARGING, the lowest priority, and of those the youngest in the
admission list; it finds none only when there is none. It releases that grant with cause SHED and judges again, one grant at a
time, and stops as soon as the held total is within the total (R10, R11, R12). -/
def Obligations.SheddingTakesLowestPriorityThenYoungest : Prop :=
  (∀ (s : State) (list : List ChanId),
    (s.shedChoice list = none ↔ ∀ c ∈ list, ∀ g, s.slot c = some g → (s.chan c).state = .discharging) ∧
    ∀ c p, s.shedChoice list = some (c, p) →
      ∃ older younger g, list = older ++ c :: younger ∧ s.slot c = some g ∧ g.priority = p ∧
        (s.chan c).state ≠ .discharging ∧
        (∀ d ∈ older, ∀ k, s.slot d = some k → (s.chan d).state ≠ .discharging → p ≤ k.priority) ∧
        ∀ d ∈ younger, ∀ k, s.slot d = some k → (s.chan d).state ≠ .discharging → p < k.priority) ∧
  ∀ (s : State) (n : Nat),
    (s.held ≤ s.budget.total → s.shed n = s) ∧
    (s.shedChoice s.grants.admission = none → s.shed n = s) ∧
    ∀ c p, s.budget.total < s.held → s.shedChoice s.grants.admission = some (c, p) →
      s.shed (n + 1) = (s.releaseGrant c .shed).shed n

/-- The law of the budget, with the laws of the grant table it rests on, is kept by every step: the running totals are the
sums they stand for, and the grants not DISCHARGING sum to no more than the total (R8, R9, R10, R20, R22, R25). -/
def Obligations.BudgetLawKept : Prop := Kept BudgetLaw

/-! ### The grant table -/

/-- The law of the slots, the law of the admission list and the numbering of the grants are kept by every step (R20, R21,
R22). -/
def Obligations.GrantTableLawsKept : Prop := Kept TableLaw ∧ Kept NumberLaw

/-- Every grant whose channel is not DISCHARGING belongs to a host attached in the grant's epoch, every waiting entry to an
attached host, and the lease timer runs exactly in ATTACHED, through every step (R41, R71, R126). -/
def Obligations.SessionLawsKept : Prop :=
  Kept OwnershipLaw ∧ Kept LeaseLaw

/-- A resize up is refused OVER_HOST_CAP over the cap, else NO_BUDGET over the free budget or under a blocking head, with the
BLOCKED qualifier when the head blocks; else the amount and the two totals rise by the difference and nothing else changes,
no scan among it (R28). -/
def Obligations.ResizeUpIsJudgedAgainstCapFreeAndHead : Prop :=
  ∀ (s : State) (h : HostId) (f : Frame) (b hi lo : Byte) (c : ChanId) (g : Grant) (amount : Nat),
    Served .resize s h f → f.body = [b, hi, lo] → b.toNat = c.val → amount = hi.toNat * 256 + lo.toNat →
    s.slot c = some g → s.owns h c = true → (s.chan c).state ≠ .discharging →
    amount ≤ 40000 → amount ≤ (s.settings c).ceiling → g.amount < amount →
    (s.cap h < s.hostReserved h + (amount - g.amount) →
      exec .resize s = .next (refusedWith s h f .overHostCap)) ∧
    (s.hostReserved h + (amount - g.amount) ≤ s.cap h →
      s.free < amount - g.amount ∨ s.queue.headBlocking = true →
      exec .resize s = .next (answered s h f (.refused .noBudget s.queue.headBlocking))) ∧
    (s.hostReserved h + (amount - g.amount) ≤ s.cap h → amount - g.amount ≤ s.free →
      s.queue.headBlocking = false →
      exec .resize s = .next
        (answered
          { s with
            grants :=
              { s.grants with
                slots := s.grants.slots.upd c fun _ => some { g with amount := amount }
                hostReserved := s.grants.hostReserved.upd h (· + (amount - g.amount)) }
            budget := { s.budget with reserved := s.budget.reserved + (amount - g.amount) } }
          h f (.resize c g.number amount (min amount (s.settings c).ceiling))))

/-- A resize to the present amount changes nothing; a resize down lowers the amount and the two totals by the difference and
runs a scan, whose notices stand ahead of the response (R26, R27). -/
def Obligations.ResizeDownLowersAndScans : Prop :=
  ∀ (s : State) (h : HostId) (f : Frame) (b hi lo : Byte) (c : ChanId) (g : Grant) (amount : Nat),
    Served .resize s h f → f.body = [b, hi, lo] → b.toNat = c.val → amount = hi.toNat * 256 + lo.toNat →
    s.slot c = some g → s.owns h c = true → (s.chan c).state ≠ .discharging →
    1 ≤ amount → amount ≤ 40000 → amount ≤ (s.settings c).ceiling →
    (amount = g.amount →
      exec .resize s = .next (answered s h f (.resize c g.number amount (min amount (s.settings c).ceiling)))) ∧
    (amount < g.amount →
      ∃ t, exec .resize s = .next
          (t.respond h f (.resize c g.number amount (min amount (s.settings c).ceiling))) ∧
        t = State.scanQueue
          { taken s h with
            grants :=
              { s.grants with
                slots := s.grants.slots.upd c fun _ => some { g with amount := amount }
                hostReserved := s.grants.hostReserved.upd h (fun n => n + amount - g.amount) }
            budget := { s.budget with reserved := s.budget.reserved + amount - g.amount } })

/-- The checks of RESIZE in their order: body, channel, owner, DISCHARGING, range, ceiling; and of RELEASE: body, channel, owner
(a channel with no grant has none), DISCHARGING (R26, R29). -/
def Obligations.ResizeAndReleaseRefusalsInOrder : Prop :=
  (∀ (s : State) (h : HostId) (f : Frame), Served .resize s h f →
    (f.body.length ≠ 3 → exec .resize s = .next (refusedWith s h f .badValue)) ∧
    ∀ b hi lo, f.body = [b, hi, lo] →
      (8 ≤ b.toNat → exec .resize s = .next (refusedWith s h f .badChannel)) ∧
      ∀ c : ChanId, b.toNat = c.val →
        (s.owns h c = false → exec .resize s = .next (refusedWith s h f .notOwner)) ∧
        (s.owns h c = true → (s.chan c).state = .discharging →
          exec .resize s = .next (refusedWith s h f .badState)) ∧
        (s.owns h c = true → (s.chan c).state ≠ .discharging →
          (hi.toNat * 256 + lo.toNat = 0 ∨ 40000 < hi.toNat * 256 + lo.toNat →
            exec .resize s = .next (refusedWith s h f .badValue)) ∧
          (1 ≤ hi.toNat * 256 + lo.toNat → hi.toNat * 256 + lo.toNat ≤ 40000 →
            (s.settings c).ceiling < hi.toNat * 256 + lo.toNat →
            exec .resize s = .next (refusedWith s h f .overCeiling)))) ∧
  ∀ (s : State) (h : HostId) (f : Frame), Served .release s h f →
    (f.body.length ≠ 1 → exec .release s = .next (refusedWith s h f .badValue)) ∧
    ∀ b, f.body = [b] →
      (8 ≤ b.toNat → exec .release s = .next (refusedWith s h f .badChannel)) ∧
      ∀ c : ChanId, b.toNat = c.val →
        (s.owns h c = false → exec .release s = .next (refusedWith s h f .notOwner)) ∧
        (s.owns h c = true → (s.chan c).state = .discharging →
          exec .release s = .next (refusedWith s h f .badState))

/-- RELEASE by the owner. In RAMPING or ON the gate goes off, the channel goes DISCHARGING with its window of 200 ms and the
amount is counted as releasing. In CHECKING, HOLDOFF or LATCHED the grant ends at once: records and totals, GRANT_ENDED, a
scan, then the response. A release from any other cause does the same, with GRANT_REVOKED first to an owner still attached in
the grant's epoch for SHED, FORCED and RESET, and with no notice at teardown; a channel DISCHARGING already is passed over (R12,
R29, R30, R31, R32, R34, R86). -/
def Obligations.ReleaseEndsOrDischargesTheGrant : Prop :=
  (∀ (s : State) (h : HostId) (f : Frame) (b : Byte) (c : ChanId) (g : Grant),
    Served .release s h f → f.body = [b] → b.toNat = c.val → s.slot c = some g → s.owns h c = true →
    ((s.chan c).state = .ramping ∨ (s.chan c).state = .on →
      exec .release s = .next
        (answered
          { s with
            grants := { s.grants with slots := s.grants.slots.upd c fun _ => some { g with cause := some .released } }
            budget := { s.budget with releasing := s.budget.releasing + g.amount }
            channels := s.channels.upd c fun ch =>
              { ch with
                state := .discharging, gate := false,
                timer := some { kind := .discharge, expiry := s.now + ms 200 } }
            meas := s.meas.upd c fun m => { m with overdraw := 0 } }
          h f (.release c g.number .discharging))) ∧
    ((s.chan c).state = .checking ∨ (s.chan c).state = .holdoff ∨ (s.chan c).state = .latched →
      ∃ t, exec .release s = .next (t.respond h f (.release c g.number .ended)) ∧
        t = State.scanQueue
          { taken s h with
            grants :=
              { s.grants with
                slots := s.grants.slots.upd c fun _ => none
                admission := s.grants.admission.erase c
                hostReserved := s.grants.hostReserved.upd h (· - g.amount) }
            budget := { s.budget with reserved := s.budget.reserved - g.amount }
            channels := s.channels.upd c fun _ => Channel.rest .idle
            outboxes := s.outboxes.upd h (arrive (.grantEnded c g.number .released)) })) ∧
  ∀ (s : State) (c : ChanId) (g : Grant) (k : ReleaseCause), s.slot c = some g →
    let Revoked := fun (h : HostId) =>
      if (k = .shed ∨ k = .forced ∨ k = .reset) ∧ g.owner = h ∧ s.ownerPresent g = true then
        arrive (.grantRevoked c g.number k) (s.outbox h)
      else s.outbox h
    ((s.chan c).state = .ramping ∨ (s.chan c).state = .on →
      ∃ t, s.releaseGrant c k = t ∧ (∀ h, t.outbox h = Revoked h) ∧
        t = { s with
              grants := { s.grants with slots := s.grants.slots.upd c fun _ => some { g with cause := some k } }
              budget := { s.budget with releasing := s.budget.releasing + g.amount }
              channels := s.channels.upd c fun ch =>
                { ch with
                  state := .discharging, gate := false,
                  timer := some { kind := .discharge, expiry := s.now + ms 200 } }
              meas := s.meas.upd c fun m => { m with overdraw := 0 }
              outboxes := t.outboxes }) ∧
    ((s.chan c).state = .checking ∨ (s.chan c).state = .holdoff ∨ (s.chan c).state = .latched →
      ∃ u, s.releaseGrant c k = State.endClosing g.owner (State.scanQueue u) ∧
        (∀ h, u.outbox h =
          if k ≠ .teardown ∧ g.owner = h ∧ s.ownerPresent g = true then arrive (.grantEnded c g.number k) (Revoked h)
          else Revoked h) ∧
        u = { s with
              grants :=
                { s.grants with
                  slots := s.grants.slots.upd c fun _ => none
                  admission := s.grants.admission.erase c
                  hostReserved := s.grants.hostReserved.upd g.owner (· - g.amount) }
              budget := { s.budget with reserved := s.budget.reserved - g.amount }
              channels := s.channels.upd c fun _ => Channel.rest .idle
              outboxes := u.outboxes }) ∧
    ((s.chan c).state = .discharging → s.releaseGrant c k = s)

/-! ### Claims and the wait queue -/

/-- A CLAIM that passes its checks, finds an empty queue and is admissible becomes one grant per item, in item order, in its
own event. Each grant takes the first number from the counter on that no grant now held has, the counter goes on from the one
after it, 65535 to 1, and the queue is left empty, with no blocking head and no blocking timer (R21, R23, R40, R45, R46, R47,
R49, R54). -/
def Obligations.AdmissibleClaimIsAdmittedAtOnce : Prop :=
  ∀ (s : State) (h : HostId) (f : Frame) (cl : Claim) (sum : Nat),
    Served .claim s h f → claimFields f.body = .ok cl → s.claimRefusal h f.tag cl = none →
    s.queue.entries = [] → sum = (cl.items.map Item.amount).sum →
    s.channelsFree cl.items = true → sum ≤ s.free → s.hostReserved h + sum ≤ s.cap h →
    ∃ u nums, Created (s.entryFor h f.tag cl 0) nums s u ∧
      exec .claim s = .next
        { answered u h f (.claimAdmitted nums) with
          queue :=
            { entries := [], headBlocking := false, blockingTimer := none,
              nextArrival := if cl.waits then (s.queue.nextArrival + 1) % 65536 else s.queue.nextArrival } }

/-- A WAIT claim that passes its checks and finds room is, after its scan, either admitted, with its grants standing and its
entry gone, or queued at the position its response gives (R45, R47, R51). -/
def Obligations.WaitClaimIsAdmittedOrQueued : Prop :=
  ∀ (s : State) (h : HostId) (f : Frame) (cl : Claim) (e : WaitEntry),
    Served .claim s h f → claimFields f.body = .ok cl → s.claimRefusal h f.tag cl = none → cl.waits = true →
    s.queue.entries.length < 12 → s.queue.entries.countP (·.host == h) < 4 →
    e = { host := h, tag := f.tag, priority := cl.priority, items := cl.items, deadline := cl.deadline,
          arrival := s.queue.nextArrival, born := s.now } →
    ∃ t box, exec .claim s = .next t ∧ t.queue.nextArrival = (s.queue.nextArrival + 1) % 65536 ∧
      ((∃ nums, nums.length = cl.items.length ∧
          t.outbox h = box ++ [.response (f.kind.truncate 7) f.tag (.claimAdmitted nums)] ∧ e ∉ t.queue.entries ∧
          ∀ i ∈ cl.items, ∃ g, t.slot i.channel = some g ∧ g.number ∈ nums ∧ g.owner = h ∧ g.tag = f.tag ∧
            g.amount = i.amount ∧ g.priority = cl.priority) ∨
        ∃ p, 1 ≤ p ∧ t.outbox h = box ++ [.response (f.kind.truncate 7) f.tag (.claimQueued p)] ∧
          t.queue.entries[p - 1]? = some e)

/-- A NO_WAIT claim that does not fit is refused and leaves no entry. In an empty queue the reason is CHANNEL_HELD when a
channel it names holds another host's grant, else NO_BUDGET. Behind a blocking head that is not admissible it is not
examined and the refusal carries BLOCKED, and nothing else changes. In any queue it is placed for its own scan, and when the
scan does not admit it, it is taken out and refused with BLOCKED exactly when the scan stopped short of it at a blocking head
(R46, R47, R48, R50, R56). -/
def Obligations.NoWaitClaimThatDoesNotFitIsRefused : Prop :=
  ∀ (s : State) (h : HostId) (f : Frame) (cl : Claim) (reason : Reason),
    Served .claim s h f → claimFields f.body = .ok cl → s.claimRefusal h f.tag cl = none → cl.waits = false →
    ((∃ i ∈ cl.items, ∃ g, s.slot i.channel = some g ∧ g.owner ≠ h) → reason = .channelHeld) →
    (¬ (∃ i ∈ cl.items, ∃ g, s.slot i.channel = some g ∧ g.owner ≠ h) → reason = .noBudget) →
    (s.queue.entries = [] → s.admissible (s.entryFor h f.tag cl 0) = false →
      exec .claim s = .next
        (answered { s with queue := { s.queue with headBlocking := false, blockingTimer := none } } h f
          (.refused reason false))) ∧
    (∀ head rest, s.queue.entries = head :: rest → s.queue.headBlocking = true → s.admissible head = false →
      cl.priority ≤ head.priority →
      exec .claim s = .next (answered s h f (.refused reason true))) ∧
    ∀ (e : WaitEntry) (u : State) (fate : Fate), e = s.entryFor h f.tag cl 0 →
      State.scanFor h f.tag (State.place e (taken s h)) = (u, fate) →
      (s.admissible e = false → ∀ nums, fate ≠ .admitted nums) ∧
      (∀ nums, fate = .admitted nums → exec .claim s = .next (u.respond h f (.claimAdmitted nums))) ∧
      (fate = .unseen → u.queue.headBlocking = true) ∧
      ((∀ nums, fate ≠ .admitted nums) →
        (∀ x ∈ (u.takeOut e).queue.entries, x ∈ s.queue.entries) ∧
        ∀ why : Reason,
          ((∃ i ∈ cl.items, ∃ g, u.slot i.channel = some g ∧ g.owner ≠ h) → why = .channelHeld) →
          (¬ (∃ i ∈ cl.items, ∃ g, u.slot i.channel = some g ∧ g.owner ≠ h) → why = .noBudget) →
          exec .claim s = .next ((u.takeOut e).respond h f (.refused why (decide (fate = .unseen)))))

/-- The checks of a CLAIM in their order: BAD_VALUE for a length that does not agree with the item count, an item count outside
1–4, a priority above 7, a wait mode above 1, an amount outside 1–40000 or a channel named twice; BAD_CHANNEL for a channel
above 7; then, with the fields read as R43 lays them out, ceilings, FAULTED channels, channels the host holds,
channels or the tag of its waiting entries, its cap, and for a WAIT claim the room in the queue (R43, R44, R45). -/
def Obligations.ClaimRefusalsInOrder : Prop :=
  ∀ (s : State) (h : HostId) (f : Frame), Served .claim s h f →
    (∀ r, claimFields f.body = .error r → exec .claim s = .next (refusedWith s h f r)) ∧
    (f.body.length < 5 → exec .claim s = .next (refusedWith s h f .badValue)) ∧
    (∀ (p m hi lo n : Byte) (rest : List Byte), f.body = p :: m :: hi :: lo :: n :: rest →
      let channel := fun k => (rest.getD (3 * k) 0#8).toNat
      let amount := fun k => word2 (rest.getD (3 * k + 1) 0#8) (rest.getD (3 * k + 2) 0#8)
      let Bad := rest.length ≠ 3 * n.toNat ∨ n.toNat = 0 ∨ 4 < n.toNat ∨ 7 < p.toNat ∨ 1 < m.toNat ∨
        (∃ k, k < n.toNat ∧ (amount k = 0 ∨ 40000 < amount k)) ∨
        ∃ j k, j < k ∧ k < n.toNat ∧ channel j = channel k
      (Bad → exec .claim s = .next (refusedWith s h f .badValue)) ∧
      (¬ Bad → (∃ k, k < n.toNat ∧ 7 < channel k) → exec .claim s = .next (refusedWith s h f .badChannel)) ∧
      (¬ Bad → (∀ k, k < n.toNat → channel k ≤ 7) →
        ∃ cl, claimFields f.body = .ok cl ∧ cl.priority = p.toNat ∧ cl.waits = decide (m = 1#8) ∧
          cl.deadline = (if m = 1#8 ∧ word2 hi lo ≠ 0 then some (word2 hi lo) else none) ∧
          cl.items.map (fun i => (i.channel.val, i.amount)) =
            (List.range n.toNat).map fun k => (channel k, amount k))) ∧
    ∀ cl, claimFields f.body = .ok cl →
      ((∃ i ∈ cl.items, (s.settings i.channel).ceiling < i.amount) →
        exec .claim s = .next (refusedWith s h f .overCeiling)) ∧
      ((∀ i ∈ cl.items, i.amount ≤ (s.settings i.channel).ceiling) →
        ((∃ i ∈ cl.items, (s.chan i.channel).state = .faulted) →
          exec .claim s = .next (refusedWith s h f .channelFaulted)) ∧
        ((∀ i ∈ cl.items, (s.chan i.channel).state ≠ .faulted) →
          ((∃ i ∈ cl.items, s.holds h i.channel = true) →
            exec .claim s = .next (refusedWith s h f .alreadyHeld)) ∧
          ((∀ i ∈ cl.items, s.holds h i.channel = false) →
            ((∃ e ∈ s.queue.entries, e.host = h ∧ (e.tag = f.tag ∨ ∃ i ∈ cl.items, e.names i.channel = true)) →
              exec .claim s = .next (refusedWith s h f .duplicate)) ∧
            ((∀ e ∈ s.queue.entries, e.host = h → e.tag ≠ f.tag ∧ ∀ i ∈ cl.items, e.names i.channel = false) →
              (s.cap h < (cl.items.map Item.amount).sum →
                exec .claim s = .next (refusedWith s h f .overHostCap)) ∧
              ((cl.items.map Item.amount).sum ≤ s.cap h → cl.waits = true →
                12 ≤ s.queue.entries.length ∨ 4 ≤ s.queue.entries.countP (·.host == h) →
                exec .claim s = .next (refusedWith s h f .queueFull))))))

/-- A CLAIM body laid out as R189 and section 10.7 give reads back as the claim it was made from, with every field at every
value R43 admits. -/
def Obligations.ClaimBodyReadsBack : Prop :=
  ∀ cl : Claim, cl.priority ≤ 7 → 1 ≤ cl.items.length → cl.items.length ≤ 4 →
    (cl.items.map Item.channel).Nodup → (∀ i ∈ cl.items, 1 ≤ i.amount ∧ i.amount ≤ 40000) →
    (∀ d, cl.deadline = some d → 1 ≤ d ∧ d ≤ 65535 ∧ cl.waits = true) →
    claimFields (byte1 cl.priority ++ flag cl.waits ++ byte2 (cl.deadline.getD 0) ++ byte1 cl.items.length ++
      itemBytes cl.items) = .ok cl

/-- A new entry is inserted directly behind the last entry whose priority is equal to or higher than its own, or at the head
when every entry present has a lower one, and no other entry moves (R41). -/
def Obligations.PlacementFollowsPriorityThenArrival : Prop :=
  ∀ (e : WaitEntry) (es : List WaitEntry), ∃ ahead behind, es = ahead ++ behind ∧ placeEntry e es = ahead ++ e :: behind ∧
    (∀ y ∈ behind, y.priority < e.priority) ∧
    (ahead = [] ∨ ∃ z, ahead.getLast? = some z ∧ e.priority ≤ z.priority)

/-- The scan admits the first admissible entry it reaches: the head, or one behind entries passed over under a head that does
not block. Its grants are created, one per item and with the numbers of R21, it leaves the queue, blocking is judged afresh when
it was the head, its host receives CLAIM_ADMITTED with its tag and one grant number per item, and the scan goes on. With no
admissible entry, or under a blocking head that is not admissible, the scan changes nothing. One pass suffices: after a scan
that leaves the head not blocking, no entry left is admissible; after one that leaves it blocking, the head is not (R21, R23,
R49, R50, R51, R54, R63). -/
def Obligations.ScanLeavesNothingAdmissibleBehind : Prop :=
  ∀ s : State,
    (∀ passed e rest, s.queue.entries = passed ++ e :: rest → (∀ x ∈ passed, s.admissible x = false) →
      s.admissible e = true → passed = [] ∨ s.queue.headBlocking = false → (e.items.map Item.channel).Nodup →
      ∃ (u v : State) (nums : List Nat), Created e nums s u ∧
        v = { u with queue := (State.setEntries (passed ++ rest) s).queue, outboxes := v.outboxes } ∧
        (∀ h, v.outbox h =
          if h = e.host ∧ s.attached h = true then arrive (.claimAdmitted e.tag nums) (s.outbox h) else s.outbox h) ∧
        s.scanQueue = v.scanQueue) ∧
    ((∀ e ∈ s.queue.entries, s.admissible e = false) → s.scanQueue = s) ∧
    (s.scanQueue.queue.headBlocking = false → ∀ e ∈ s.scanQueue.queue.entries, s.scanQueue.admissible e = false) ∧
    (∀ e, s.scanQueue.queue.entries.head? = some e → s.scanQueue.admissible e = false) ∧
    ∀ head rest, s.queue.entries = head :: rest → s.queue.headBlocking = true → s.admissible head = false →
      s.scanQueue = s

/-- At most 12 entries and 4 of one host, in order of priority, each of an attached host; the stored blocking of the head and its
timer as R54's table has them; no two entries of one host with the same tag or a channel in common, and none that names a channel
its own host holds or a FAULTED one: through every step (R41, R42, R44, R45, R46, R54, R55). -/
def Obligations.QueueAndBlockingLawsKept : Prop :=
  Kept QueueLaw ∧ Kept BlockingLaw ∧ Kept NamingLaw

/-- The blocking timer's expiry makes the head block and changes nothing else; a deadline's expiry removes its entry, judges
the head afresh when it changed, posts CLAIM_FAILED with cause EXPIRED and scans (R54, R57; the clock is the model's, log
entry 2). -/
def Obligations.QueueTimersExpire : Prop :=
  (∀ (s : State) (e : Nat), s.queue.blockingTimer = some e →
    exec .blockingTimerExpiry s = .next
      { s with now := max s.now e, queue := { s.queue with headBlocking := true, blockingTimer := none } }) ∧
  ∀ (s : State) (h : HostId) (tag : Byte) (e : WaitEntry) (d : Nat) (u : State),
    s.entryOf h tag = some e → e.deadline = some d → s.attached h = true →
    u = State.setEntries (s.queue.entries.erase e) { s with now := max s.now (e.born + ms d) } →
    exec (.deadlineExpiry h tag) s = .next
      (State.scanQueue { u with outboxes := u.outboxes.upd h (arrive (.claimFailed tag .expired)) })

/-- CANCEL removes the requester's waiting entry with the tag, judges the head afresh when it changed, scans, and answers OK
after the scan's notices; without such an entry it is refused NO_SUCH_CLAIM, with another body length BAD_VALUE (R58). -/
def Obligations.CancelRemovesTheEntry : Prop :=
  ∀ (s : State) (h : HostId) (f : Frame), Served .cancel s h f →
    (f.body.length ≠ 1 → exec .cancel s = .next (refusedWith s h f .badValue)) ∧
    ∀ tag, f.body = [tag] →
      ((∀ e ∈ s.queue.entries, e.host = h → e.tag ≠ tag) →
        exec .cancel s = .next (refusedWith s h f .noSuchClaim)) ∧
      ∀ front e back, s.queue.entries = front ++ e :: back → e.host = h → e.tag = tag →
        (∀ x ∈ front, x.host = h → x.tag ≠ tag) →
        exec .cancel s = .next
          (((State.setEntries (front ++ back) (taken s h)).scanQueue).respond h f (.cancel tag))

/-- READ_QUEUE reports the number of all entries and describes the requester's own, in queue order, each with its position in
the whole queue (R65; whole milliseconds are the model's choice, log entry 13, and that the blocking field is the judgement
R54's events have stored is its deduction, log entry 17). -/
def Obligations.ReadQueueDescribesOwnEntries : Prop :=
  ∀ (s : State) (h : HostId) (f : Frame), Served .readQueue s h f →
    (f.body ≠ [] → exec .readQueue s = .next (refusedWith s h f .badValue)) ∧
    (f.body = [] → ∃ own,
      exec .readQueue s = .next (answered s h f (.readQueue s.queue.entries.length own)) ∧
      own.length = s.queue.entries.countP (·.host == h) ∧
      (own.map QueueReport.position).Pairwise (· < ·) ∧
      ∀ q ∈ own, 1 ≤ q.position ∧ ∃ e, s.queue.entries[q.position - 1]? = some e ∧ e.host = h ∧ q.tag = e.tag ∧
        q.priority = e.priority ∧ q.arrival = e.arrival ∧ q.items = e.items ∧
        (q.blocking = true ↔ q.position = 1 ∧ s.queue.headBlocking = true) ∧
        q.age = min ((s.now - e.born) / 4) 65535 ∧
        (e.deadline = none → q.remaining = 0) ∧
        ∀ d, e.deadline = some d → q.remaining = (e.born + 4 * d - s.now + 3) / 4)

/-! ### The channel sequencer -/

/-- Every gate is on exactly when its channel is in RAMPING or ON; the overdraw count is below 128, and 0 whenever the channel
is not ON; every channel runs the timer its state has and no other, with retries used 0–7, 0 in IDLE and FAULTED, and the
idle-fault count below 8, 0 outside IDLE: through every step (R70, R71, R74, R81, R82, R105, R108). -/
def Obligations.GateAndOverdrawLawsKept : Prop :=
  Kept GateLaw ∧ Kept OverdrawLaw ∧ Kept RecordLaw

/-- What a sample does that neither trips the channel, nor ends a grant, nor faults the channel: the channel's record after it
by the state at the arrival, CHANNEL_ON to the owner at the move to ON, and no change to the budget, the grants, the queue,
the sessions, the configuration or another channel (R74, R76, R77, R79, R84, R87; the clock is the model's, log entries 1 to
3). -/
def Obligations.SampleMovesTheChannel : Prop :=
  ∀ (s : State) (sc : Scan) (c : ChanId) (r x : Reading) (now : Nat) (off good : Bool) (ch : Channel),
    s.scan = some sc → sc.slot = c → x = sampleOf r → now = max s.now sc.ends → ch = s.chan c →
    off = decide (20 * x.output < x.bus) →
    good = (decide (9 * x.bus ≤ 10 * x.output) && (!(s.settings c).pgInput || x.pg)) →
    s.verdict c x = .none →
    (ch.state = .idle → off = false → ch.idleFaults + 1 < 8) → (ch.state = .checking → off = true) →
    (ch.state = .discharging → off = false) →
    ∃ t, exec (.slotCompletion c r) s = .next t ∧
      (ch.state = .idle → t.chan c = { ch with idleFaults := if off then 0 else ch.idleFaults + 1 }) ∧
      (ch.state = .checking → t.chan c =
        { ch with
          state := .ramping, gate := true,
          timer := some { kind := .ramp, expiry := now + ms (s.settings c).rampWindow } }) ∧
      (ch.state = .ramping → t.chan c = if good then { ch with state := .on, timer := none } else ch) ∧
      (ch.state = .on → t.chan c =
        if good then { ch with timer := none }
        else if ch.timer.isSome then ch
        else { ch with timer := some { kind := .grace, expiry := now + ms 100 } }) ∧
      (ch.state = .discharging ∨ ch.state = .holdoff ∨ ch.state = .latched ∨ ch.state = .faulted → t.chan c = ch) ∧
      (∀ d, d ≠ c → t.chan d = s.chan d ∧ t.measure d = s.measure d) ∧
      (∀ h, t.outbox h =
        match s.slot c with
        | none => s.outbox h
        | some g =>
          if ch.state = .ramping ∧ good = true ∧ g.owner = h ∧ s.ownerPresent g = true then
            arrive (.channelOn c g.number) (s.outbox h)
          else s.outbox h) ∧
      t = { s with
            now := now
            scan := t.scan
            rounds := t.rounds
            ready := t.ready
            tallies := t.tallies
            meas := t.meas
            channels := t.channels
            outboxes := t.outboxes }

/-- A CHECKING sample without the output off ends the grant with cause SWITCH_FAULT and quarantines the channel: the records and
totals change as R31 gives, the owner gets GRANT_ENDED, a scan runs, CHANNEL_FAULTED goes to every attached host, every entry
that names the channel leaves with CLAIM_FAILED CHANNEL_FAULTED, and one more scan follows when one did. The eighth consecutive
IDLE sample without the output off quarantines the channel as well, with the same broadcast and removals (R31, R59, R64, R74,
R76, R88, R92; that IDLE_FAULT_LIMIT is that slot completion with its whole effect is the model's deduction, log entry 5; the
clock is the model's, log entries 1 to 3). -/
def Obligations.FailedCheckAndIdleLimitQuarantine : Prop :=
  (∀ (s : State) (sc : Scan) (c : ChanId) (r : Reading) (g : Grant),
    s.scan = some sc → sc.slot = c → s.slot c = some g → (s.chan c).state = .checking →
    ¬ 20 * (sampleOf r).output < (sampleOf r).bus →
    ∃ t u v w : State, exec (.slotCompletion c r) s = .next t ∧ t.chan c = Channel.rest .faulted ∧ t.slot c = none ∧
      (∀ e ∈ t.queue.entries, e.names c = false) ∧
      u = { s with
            now := max s.now sc.ends
            scan := some { slot := c + 1, ends := sc.ends + 1 }
            budget := { s.budget with reserved := s.budget.reserved - g.amount }
            grants :=
              { s.grants with
                slots := s.grants.slots.upd c fun _ => none
                admission := s.grants.admission.erase c
                hostReserved := s.grants.hostReserved.upd g.owner (· - g.amount) }
            channels := s.channels.upd c fun _ => Channel.rest .faulted
            meas := u.meas
            tallies := u.tallies
            outboxes := u.outboxes } ∧
      (∀ h, u.outbox h =
        if g.owner = h ∧ s.ownerPresent g = true then arrive (.grantEnded c g.number .switchFault) (s.outbox h)
        else s.outbox h) ∧
      Broadcast (.channelFaulted c) u.scanQueue v ∧ Failed (WaitEntry.names c) .channelFaulted v w ∧
      t = { State.endClosing g.owner (scannedWithout (WaitEntry.names c) v w) with rounds := t.rounds, ready := t.ready }) ∧
  ∀ (s : State) (sc : Scan) (c : ChanId) (r : Reading),
    s.scan = some sc → sc.slot = c → (s.chan c).state = .idle → (s.chan c).idleFaults = 7 →
    ¬ 20 * (sampleOf r).output < (sampleOf r).bus →
    ∃ t u v w : State, exec (.idleFaultLimit c r) s = .next t ∧ exec (.slotCompletion c r) s = .next t ∧
      t.chan c = Channel.rest .faulted ∧ (∀ e ∈ t.queue.entries, e.names c = false) ∧
      u = { s with
            now := max s.now sc.ends
            scan := some { slot := c + 1, ends := sc.ends + 1 }
            channels := s.channels.upd c fun _ => Channel.rest .faulted
            meas := u.meas
            tallies := u.tallies } ∧
      Broadcast (.channelFaulted c) u v ∧ Failed (WaitEntry.names c) .channelFaulted v w ∧
      t = { scannedWithout (WaitEntry.names c) v w with rounds := t.rounds, ready := t.ready }

/-- A DISCHARGING sample with the output off ends the grant with its recorded cause and returns the channel to IDLE; the
expiry of the discharge window ends it and quarantines the channel. The amount leaves the reserved and the releasing total,
GRANT_ENDED goes to an owner still attached in the grant's epoch, but not for a grant released at teardown, and a scan of the
waiting entries follows. At the window's expiry CHANNEL_FAULTED then goes to every attached host, every entry that names the
channel leaves with CLAIM_FAILED CHANNEL_FAULTED, and one more scan follows when one did. Last, a CLOSING owner left with no
grant becomes DETACHED. With no entry waiting, only these records and those of the sample change (R8, R31, R33, R59, R64, R87,
R88, R92, R139; the clock is the model's, log entries 1 to 3). -/
def Obligations.DischargeEndsTheGrant : Prop :=
  ∀ (s : State) (c : ChanId) (g : Grant) (k : ReleaseCause), s.slot c = some g → (s.chan c).state = .discharging →
    g.cause = some k →
    let Ended := fun (h : HostId) =>
      if k ≠ .teardown ∧ g.owner = h ∧ s.ownerPresent g = true then arrive (.grantEnded c g.number k) (s.outbox h)
      else s.outbox h
    let gone : State :=
      { s with
        budget :=
          { s.budget with
            reserved := s.budget.reserved - g.amount, releasing := s.budget.releasing - g.amount }
        grants :=
          { s.grants with
            slots := s.grants.slots.upd c fun _ => none
            admission := s.grants.admission.erase c
            hostReserved := s.grants.hostReserved.upd g.owner (· - g.amount) } }
    let Sessions := fun (t : State) => ∀ h, t.session h =
      if h = g.owner ∧ (s.session h).state = .closing ∧ ∀ d, t.holds h d = false then
        { s.session h with state := .detached }
      else s.session h
    let Alone := fun (t : State) =>
      t.budget = gone.budget ∧ t.grants = gone.grants ∧ (∀ d, d ≠ c → t.chan d = s.chan d) ∧
      ∀ h, h = g.owner → (s.session h).state = .closing → (∀ d, d ≠ c → s.holds h d = false) →
        t.session h = { s.session h with state := .detached }
    (∀ (sc : Scan) (r : Reading), s.scan = some sc → sc.slot = c → 20 * (sampleOf r).output < (sampleOf r).bus →
      ∃ t u : State, exec (.slotCompletion c r) s = .next t ∧ t.now = max s.now sc.ends ∧ Sessions t ∧
        u = { gone with
              now := max s.now sc.ends
              scan := some { slot := c + 1, ends := sc.ends + 1 }
              channels := s.channels.upd c fun _ => Channel.rest .idle
              meas := u.meas
              tallies := u.tallies
              outboxes := u.outboxes } ∧
        (∀ h, u.outbox h = Ended h) ∧
        t = { State.endClosing g.owner u.scanQueue with rounds := t.rounds, ready := t.ready } ∧
        (s.queue.entries = [] →
          t.chan c = Channel.rest .idle ∧ Alone t ∧ (∀ h, t.outbox h = Ended h) ∧
          t = { s with
                now := t.now
                scan := t.scan
                rounds := t.rounds
                ready := t.ready
                tallies := t.tallies
                meas := t.meas
                budget := t.budget
                grants := t.grants
                channels := t.channels
                sessions := t.sessions
                outboxes := t.outboxes })) ∧
    ∀ e, (s.chan c).timer = some { kind := .discharge, expiry := e } →
      ∃ t u v w : State, exec (.dischargeTimerExpiry c) s = .next t ∧ t.now = max s.now e ∧ Sessions t ∧
        t.chan c = Channel.rest .faulted ∧ t.slot c = none ∧ (∀ x ∈ t.queue.entries, x.names c = false) ∧
        u = { gone with
              now := max s.now e
              channels := s.channels.upd c fun _ => Channel.rest .faulted
              outboxes := u.outboxes } ∧
        (∀ h, u.outbox h = Ended h) ∧
        Broadcast (.channelFaulted c) u.scanQueue v ∧ Failed (WaitEntry.names c) .channelFaulted v w ∧
        t = State.endClosing g.owner (scannedWithout (WaitEntry.names c) v w) ∧
        (s.queue.entries = [] →
          Alone t ∧ (∀ h, t.outbox h = if s.attached h then arrive (.channelFaulted c) (Ended h) else s.outbox h) ∧
          t = { s with
                now := t.now
                budget := t.budget
                grants := t.grants
                channels := t.channels
                sessions := t.sessions
                outboxes := t.outboxes })

/-- Every trip turns the gate off, zeroes the overdraw count, goes to HOLDOFF with its timer while retries are left and to
LATCHED otherwise, and posts CHANNEL_TRIPPED to the owner; it changes no grant and no budget figure and runs no scan. It is
taken at a sample with the verdict OVERDRAW or SEVERE and at the expiry of the ramp or grace timer, where nothing else of the
part changes (R78, R80, R81, R90, R105, R107; that OVERDRAW_COUNT_FULL and the completion of that slot are one event with one effect is the model's deduction,
log entry 5; the clock is the model's, log entries 1 to 3). -/
def Obligations.TripsSwitchTheChannelOff : Prop :=
  ∀ (s : State) (c : ChanId) (g : Grant), s.slot c = some g →
    let Tripped := fun (now : Nat) (cause : TripCause) (t : State) =>
      t.chan c =
        { s.chan c with
          state := if (s.chan c).retries < (s.settings c).retryLimit then .holdoff else .latched
          gate := false
          timer :=
            if (s.chan c).retries < (s.settings c).retryLimit then
              some { kind := .holdoff, expiry := now + ms (s.settings c).holdoff }
            else none } ∧
      (t.measure c).overdraw = 0 ∧ (∀ d, d ≠ c → t.chan d = s.chan d ∧ t.measure d = s.measure d) ∧
      (∀ h, t.outbox h =
        if g.owner = h ∧ s.ownerPresent g = true then
          arrive (.channelTripped c g.number cause (decide ((s.settings c).retryLimit ≤ (s.chan c).retries))
            (s.chan c).retries) (s.outbox h)
        else s.outbox h) ∧
      t = { s with
            now := now
            scan := t.scan
            rounds := t.rounds
            ready := t.ready
            tallies := t.tallies
            meas := t.meas
            channels := t.channels
            outboxes := t.outboxes }
    let Only := fun (now : Nat) (t : State) =>
      t = { s with
            now := now
            meas := s.meas.upd c fun m => { m with overdraw := 0 }
            channels := t.channels
            outboxes := t.outboxes }
    (∀ (sc : Scan) (r x : Reading) (now : Nat), s.scan = some sc → sc.slot = c → x = sampleOf r →
      now = max s.now sc.ends →
      ((s.chan c).state = .on → ¬ 2 * ((s.settings c).ceiling : Int) < powerOf x → x.current.natAbs ≤ 30000 →
        (s.effectiveLimit c : Int) < powerOf x → 120 ≤ (s.measure c).overdraw →
        ∃ t, exec (.overdrawCountFull c r) s = .next t ∧ exec (.slotCompletion c r) s = .next t ∧
          Tripped now .overdraw t) ∧
      ((s.chan c).state = .on ∨ (s.chan c).state = .ramping →
        2 * ((s.settings c).ceiling : Int) < powerOf x ∨ 30000 < x.current.natAbs →
        ∃ t, exec (.slotCompletion c r) s = .next t ∧ Tripped now .severe t)) ∧
    (∀ e, (s.chan c).timer = some { kind := .ramp, expiry := e } → (s.chan c).state = .ramping →
      ∃ t, exec (.rampTimerExpiry c) s = .next t ∧ Tripped (max s.now e) .rampTimeout t ∧
        Only (max s.now e) t) ∧
    ∀ e, (s.chan c).timer = some { kind := .grace, expiry := e } → (s.chan c).state = .on →
      ∃ t, exec (.graceTimerExpiry c) s = .next t ∧ Tripped (max s.now e) .powerGoodLost t ∧
        Only (max s.now e) t

/-- The holdoff timer's expiry starts a retry: the channel goes CHECKING with its gate as it was, retries used rises by 1, and
CHANNEL_RETRY goes to the owner; nothing else changes (R75, R82, R83, R91; the clock is the model's, log entry 2). -/
def Obligations.HoldoffExpiryStartsARetry : Prop :=
  ∀ (s : State) (c : ChanId) (g : Grant) (e : Nat),
    s.slot c = some g → s.ownerPresent g = true → (s.chan c).state = .holdoff →
    (s.chan c).timer = some { kind := .holdoff, expiry := e } →
    exec (.holdoffTimerExpiry c) s = .next
      { s with
        now := max s.now e
        channels := s.channels.upd c fun ch =>
          { ch with state := .checking, timer := none, retries := ch.retries + 1 }
        outboxes := s.outboxes.upd g.owner (arrive (.channelRetry c g.number ((s.chan c).retries + 1))) }

/-- CLEAR_TRIP by the owner of a channel in HOLDOFF or LATCHED sends it to CHECKING with its timer cancelled and retries used 0
and reports the retries used before; its checks refuse in R85's order (R85). -/
def Obligations.ClearTripRestartsTheChannel : Prop :=
  ∀ (s : State) (h : HostId) (f : Frame), Served .clearTrip s h f →
    (f.body.length ≠ 1 → exec .clearTrip s = .next (refusedWith s h f .badValue)) ∧
    ∀ b, f.body = [b] →
      (8 ≤ b.toNat → exec .clearTrip s = .next (refusedWith s h f .badChannel)) ∧
      ∀ c : ChanId, b.toNat = c.val →
        (s.owns h c = false → exec .clearTrip s = .next (refusedWith s h f .notOwner)) ∧
        (s.owns h c = true → (s.chan c).state ≠ .holdoff → (s.chan c).state ≠ .latched →
          exec .clearTrip s = .next (refusedWith s h f .badState)) ∧
        ∀ g, s.slot c = some g → s.owns h c = true → (s.chan c).state = .holdoff ∨ (s.chan c).state = .latched →
          exec .clearTrip s = .next
            (answered
              { s with
                channels := s.channels.upd c fun ch => { ch with state := .checking, timer := none, retries := 0 } }
              h f (.clearTrip c g.number (s.chan c).retries))

/-! ### Measurement and tallies -/

/-- Every ring holds exactly 2^N powers, no peak is below 0, and the tallies stay in their ranges, through every step (R101,
R102, R104, R116). -/
def Obligations.MeasurementLawsKept : Prop := Kept RingLaw ∧ Kept PeakLaw ∧ Kept TallyLaw

/-- Every slot completion records the sample's readings and power, and, but for a sample that ends a discharge, replaces the
oldest power of the ring, sets the average to the ring's sum over 2^N rounded toward zero and the peak to the larger; it
counts the sample to the owner of the grant held at the arrival and to no other host; the next slot is in progress. A sample
that meets no trip raises an ON channel's overdraw count by 8 above the effective limit, lowers it by 1 otherwise, and leaves it
as it is outside ON (R97, R100, R101, R104, R105, R109, R117, R118, R119; the clock is the model's, log entries 1 to 3). -/
def Obligations.SampleIsRecordedAndTallied : Prop :=
  ∀ (s : State) (sc : Scan) (c : ChanId) (r x : Reading), s.scan = some sc → sc.slot = c → x = sampleOf r →
    ∃ t, exec (.slotCompletion c r) s = .next t ∧
      t.now = max s.now sc.ends ∧
      t.scan = some { slot := c + 1, ends := sc.ends + 1 } ∧
      (t.measure c).current = x.current ∧ (t.measure c).output = x.output ∧ (t.measure c).bus = x.bus ∧
      (t.measure c).pg = x.pg ∧ (t.measure c).power = powerOf x ∧
      (¬ ((s.chan c).state = .discharging ∧ 20 * x.output < x.bus) →
        (t.measure c).ring = (s.measure c).ring.drop 1 ++ [powerOf x] ∧
        (t.measure c).average = ((s.measure c).ring.drop 1 ++ [powerOf x]).sum.tdiv (2 ^ s.config.averaging) ∧
        (t.measure c).peak = max (s.measure c).peak (powerOf x)) ∧
      ((s.chan c).state = .on → (s.measure c).overdraw < 128 →
        ¬ 2 * ((s.settings c).ceiling : Int) < powerOf x → x.current.natAbs ≤ 30000 →
        ((s.effectiveLimit c : Int) < powerOf x → (s.measure c).overdraw + 8 < 128 →
          (t.measure c).overdraw = (s.measure c).overdraw + 8) ∧
        (powerOf x ≤ (s.effectiveLimit c : Int) → (t.measure c).overdraw = (s.measure c).overdraw - 1)) ∧
      ((s.chan c).state ≠ .on →
        ((s.chan c).state = .ramping → ¬ 2 * ((s.settings c).ceiling : Int) < powerOf x ∧ x.current.natAbs ≤ 30000) →
        (t.measure c).overdraw = (s.measure c).overdraw) ∧
      ∀ h, t.tally h =
        if s.holds h c = true then
          { accumulator := ((s.tally h).accumulator + (max 0 (powerOf x)).toNat) % 4294967296
            rollovers :=
              if (s.tally h).accumulator + (max 0 (powerOf x)).toNat < 4294967296 then (s.tally h).rollovers
              else ((s.tally h).rollovers + 1) % 256
            samples := ((s.tally h).samples + 1) % 4294967296 }
        else s.tally h

/-- A sample lies in R98's ranges whatever the reading: a reading in its range is the sample, and one beyond an end is the end
value. Its power is the exact product over 1000 rounded toward zero, within
R99's bounds; the two output predicates never hold together above a bus voltage of 0, and at 0 the first never holds (R73,
R98, R99). -/
def Obligations.SamplePowerAndPredicates : Prop :=
  ∀ (r x : Reading) (pgInput : Bool), x = sampleOf r →
    (x.current = if r.current < -32768 then -32768 else if 32767 < r.current then 32767 else r.current) ∧
    (x.output = if r.output < 0 then 0 else if 6000 < r.output then 6000 else r.output) ∧
    (x.bus = if r.bus < 0 then 0 else if 6000 < r.bus then 6000 else r.bus) ∧ x.pg = r.pg ∧
    (-32768 ≤ x.current ∧ x.current ≤ 32767) ∧ (0 ≤ x.output ∧ x.output ≤ 6000) ∧ (0 ≤ x.bus ∧ x.bus ≤ 6000) ∧
    (-196608 ≤ powerOf x ∧ powerOf x ≤ 196602) ∧
    (0 ≤ x.bus * x.current → 1000 * powerOf x ≤ x.bus * x.current ∧ x.bus * x.current < 1000 * powerOf x + 1000) ∧
    (x.bus * x.current ≤ 0 → x.bus * x.current ≤ 1000 * powerOf x ∧ 1000 * powerOf x < x.bus * x.current + 1000) ∧
    (0 < x.bus → ¬ (outputOff x = true ∧ outputGood pgInput x = true)) ∧
    (x.bus = 0 → outputOff x = false ∧ outputGood pgInput x = (!pgInput || x.pg))

/-- READ_CHANNEL reports the channel as it stands; with clear peak YES from the owner it then sets the peak to 0 and changes
nothing else; its checks refuse in R110's order. READ_TALLY reports the requester's own tally and host reserved total; with the
clear flag YES it then sets the three fields to 0, with NO it keeps them; a wrong body is refused BAD_VALUE and changes nothing
(R110, R111, R112, R122, R123). -/
def Obligations.ReadChannelAndReadTallyReportAndClear : Prop :=
  (∀ (s : State) (h : HostId) (f : Frame), Served .readChannel s h f →
    (f.body.length ≠ 2 → exec .readChannel s = .next (refusedWith s h f .badValue)) ∧
    ∀ b k, f.body = [b, k] →
      (1 < k.toNat → exec .readChannel s = .next (refusedWith s h f .badValue)) ∧
      (k.toNat ≤ 1 → 8 ≤ b.toNat → exec .readChannel s = .next (refusedWith s h f .badChannel)) ∧
      ∀ c : ChanId, b.toNat = c.val →
        let report := fun (cleared : Bool) =>
          { channel := c, state := (s.chan c).state, grant := s.slot c, ceiling := (s.settings c).ceiling,
            limit := s.effectiveLimit c, current := (s.measure c).current, output := (s.measure c).output,
            bus := (s.measure c).bus, pg := (s.measure c).pg, power := (s.measure c).power,
            average := (s.measure c).average, peak := (s.measure c).peak, overdraw := (s.measure c).overdraw,
            retries := (s.chan c).retries, retryLimit := (s.settings c).retryLimit,
            peakCleared := cleared : ChannelReport }
        (k = 0#8 → exec .readChannel s = .next (answered s h f (.readChannel (report false)))) ∧
        (k = 1#8 → s.owns h c = false → exec .readChannel s = .next (refusedWith s h f .notOwner)) ∧
        (k = 1#8 → s.owns h c = true →
          exec .readChannel s = .next
            (answered { s with meas := s.meas.upd c fun m => { m with peak := 0 } } h f
              (.readChannel (report true))))) ∧
  ∀ (s : State) (h : HostId) (f : Frame), Served .readTally s h f →
    (f.body.length ≠ 1 → exec .readTally s = .next (refusedWith s h f .badValue)) ∧
    ∀ k, f.body = [k] →
      (1 < k.toNat → exec .readTally s = .next (refusedWith s h f .badValue)) ∧
      (k = 0#8 → exec .readTally s = .next (answered s h f (.readTally (s.tally h) (s.hostReserved h) false))) ∧
      (k = 1#8 → exec .readTally s = .next
        (answered
          { s with tallies := s.tallies.upd h fun _ => { accumulator := 0, rollovers := 0, samples := 0 } }
          h f (.readTally (s.tally h) (s.hostReserved h) true)))

/-! ### Sessions -/

/-- ATTACH by the state of the session: it opens a DETACHED one with the next epoch, a lease and a zeroed tally, is refused
BAD_VALUE there with a body, BAD_STATE in ATTACHED with the lease renewed, and BUSY in CLOSING (R120, R128, R129, R130). -/
def Obligations.AttachOpensASession : Prop :=
  ∀ (s : State) (h : HostId) (f : Frame), Next .attach s h f →
    ((s.session h).state = .detached → f.body = [] →
      exec .attach s = .next
        { answered s h f
            (.attach (if (s.session h).epoch < 255 then (s.session h).epoch + 1 else 1) s.config.leasePeriod
              (s.session h).lastClose) with
          sessions := s.sessions.upd h fun r =>
            { r with
              state := .attached, epoch := if r.epoch < 255 then r.epoch + 1 else 1,
              lease := some (s.now + ms s.config.leasePeriod) }
          tallies := s.tallies.upd h fun _ => { accumulator := 0, rollovers := 0, samples := 0 } }) ∧
    ((s.session h).state = .detached → f.body ≠ [] → exec .attach s = .next (refusedWith s h f .badValue)) ∧
    ((s.session h).state = .attached → exec .attach s = .next (refusedWith s h f .badState)) ∧
    ((s.session h).state = .closing → exec .attach s = .next (refusedWith s h f .busy))

/-- DETACH and the lease's expiry close the session: CLOSING while a grant of the host discharges and DETACHED otherwise, lease
stopped, epoch kept, the cause recorded; the outbox holds the DETACH response alone, or nothing; every grant of the host
stands in DISCHARGING, no entry of it waits, and it is no elector. Teardown's steps run in order: entries out with one scan,
grants released, then an open proposal the host was an elector of closes WITHDRAWN when it proposed it, is adopted when the
remaining electors have all consented, and loses it from both sets otherwise. A TAKE in progress at the flush is left to remove
nothing (R34, R66, R131, R135, R137, R139, R155, R156, R175; the clock is the model's, log entry 2; that a TAKE is in progress
before its head is fixed, log entry 33). -/
def Obligations.ClosingASessionTearsTheHostDown : Prop :=
  ∀ (s : State) (h : HostId), TableLaw s → s.attached h = true →
    let Closed := fun (cause : CloseCause) (n : Nat) (t : State) =>
      t.session h =
        { state := if n = 0 then .detached else .closing, epoch := (s.session h).epoch, lease := none,
          lastClose := cause } ∧
      n = allChannels.countP (t.holds h) ∧
      (∀ c g, t.slot c = some g → g.owner = h → (t.chan c).state = .discharging) ∧
      (∀ e ∈ t.queue.entries, e.host ≠ h) ∧ (∀ p, t.proposal = some p → p.electorate.read h = false) ∧
      ∀ k, k ≠ h → t.attached k = s.attached k
    let Torn := fun (straps : BitVec 2) (cause : CloseCause) (b t : State) =>
      ∃ v w q : State,
        v = { b with
              sessions := b.sessions.upd h fun r => { r with state := .closing, lease := none, lastClose := cause }
              outboxes := b.outboxes.upd h fun _ => []
              ports := b.ports.upd h fun p => { p with select := p.select.map fun x => { x with spares := true } } } ∧
        w = State.releaseAll (fun g => g.owner == h) .teardown
          (if v.queue.entries.any (fun e => e.host == h) then
            State.scanQueue (State.setEntries (v.queue.entries.filter fun e => !(e.host == h)) v)
          else v) ∧
        t = State.endClosing h q ∧
        ((∀ p, s.proposal = some p → p.electorate.read h = false) → q = w) ∧
        ∀ p, s.proposal = some p → p.electorate.read h = true →
          (p.proposer = h → Broadcast (.proposalClosed p.id .withdrawn none) { w with proposal := none } q) ∧
          (p.proposer ≠ h → ∀ r : Proposal, r = { p with electorate := r.electorate, consents := r.consents } →
            (∀ k, r.electorate.read k = true ↔ p.electorate.read k = true ∧ k ≠ h) →
            (∀ k, r.consents.read k = true ↔ p.consents.read k = true ∧ k ≠ h) →
            (r.consents ≠ r.electorate → q = { w with proposal := some r }) ∧
            (r.consents = r.electorate →
              Broadcast (.proposalClosed p.id .adopted none) (State.adopt straps p.change { w with proposal := none }) q))
    (∀ f straps, Served .detach s h f → f.body = [] →
      ∃ u t n, Torn straps .detached (taken s h) u ∧
        u.respond h f (.detach (u.session h).epoch (u.session h).state n) = t ∧
        exec (.detach straps) s = .next t ∧ Closed .detached n t ∧
        t.outbox h = [.response (f.kind.truncate 7) f.tag
          (.detach (s.session h).epoch (if n = 0 then .detached else .closing) n)]) ∧
    (∀ f straps, Served .detach s h f → f.body ≠ [] →
      exec (.detach straps) s = .next (refusedWith s h f .badValue)) ∧
    ∀ e straps, (s.session h).lease = some e →
      ∃ t n, exec (.leaseExpiry h straps) s = .next t ∧ Torn straps .expired { s with now := max s.now e } t ∧
        Closed .expired n t ∧ t.outbox h = [] ∧ t.now = max s.now e

/-- QUERY_PART, RENEW, READ_SESSION and READ_BUDGET answer their fields and change nothing but the lease of an attached host, and
refuse a body; READ_SESSION reports the time left before its own renewal, READ_BUDGET the figures of the account as they stand
(R16, R132, R133, R134, R187; whole milliseconds are the model's choice, log entry 13, and that
head blocking is the judgement R54's events have stored is its deduction, log entry 17). -/
def Obligations.ReportingRequestsAnswer : Prop :=
  (∀ (s : State) (h : HostId) (f : Frame), Next .queryPart s h f →
    (f.body = [] → exec .queryPart s = .next (answered s h f (.queryPart h))) ∧
    (f.body ≠ [] → exec .queryPart s = .next (refusedWith s h f .badValue))) ∧
  (∀ (s : State) (h : HostId) (f : Frame), Served .renew s h f →
    (f.body = [] → exec .renew s = .next (answered s h f (.renew s.config.leasePeriod))) ∧
    (f.body ≠ [] → exec .renew s = .next (refusedWith s h f .badValue))) ∧
  (∀ (s : State) (h : HostId) (f : Frame) (e : Nat), Served .readSession s h f → (s.session h).lease = some e →
    (f.body = [] →
      exec .readSession s = .next
        (answered s h f (.readSession (s.session h).epoch s.config.leasePeriod ((e - s.now + 3) / 4)))) ∧
    (f.body ≠ [] → exec .readSession s = .next (refusedWith s h f .badValue))) ∧
  ∀ (s : State) (h : HostId) (f : Frame), Served .readBudget s h f →
    (f.body = [] →
      exec .readBudget s = .next (answered s h f (.readBudget
        { normal := s.config.normal, derated := s.config.derated, asserted := s.budget.derateTaken,
          total := s.budget.total, reserved := s.budget.reserved, releasing := s.budget.releasing,
          free := s.budget.total - s.budget.reserved, waiting := s.queue.entries.length,
          headBlocking := s.queue.headBlocking }))) ∧
    (f.body ≠ [] → exec .readBudget s = .next (refusedWith s h f .badValue))

/-! ### Configuration and consent -/

/-- Through every step: the open proposal's consent set lies in its electorate and its electorate among the attached hosts; every
field of the configuration record lies in its range, the derated level no greater than the normal one, and so do the arguments
of the open proposal; and the total budget is the level the derate state selects (R1, R6, R143, R146, R149, R155). -/
def Obligations.ConsentAndConfigurationLawsKept : Prop :=
  Kept ConsentLaw ∧ Kept ConfigLaw ∧ Kept TotalLaw

/-- READ_CONFIG reports the section it names and READ_PROPOSAL the open proposal, or that none is open; wrong bodies are
refused in the rules' order (R145, R147; a window remaining of at least 1, in whole milliseconds, is the model's choice, log
entries 13 and 14). -/
def Obligations.ConfigurationRequestsReport : Prop :=
  (∀ (s : State) (h : HostId) (f : Frame), Served .readConfig s h f →
    (f.body.length ≠ 2 → exec .readConfig s = .next (refusedWith s h f .badValue)) ∧
    ∀ part b, f.body = [part, b] →
      (1 < part.toNat → exec .readConfig s = .next (refusedWith s h f .badValue)) ∧
      (part = 0#8 → exec .readConfig s = .next
        (answered s h f (.readGlobal s.config.normal s.config.derated s.config.caps s.config.leasePeriod
          s.config.blockingAge s.config.averaging))) ∧
      (part = 1#8 → 8 ≤ b.toNat → exec .readConfig s = .next (refusedWith s h f .badChannel)) ∧
      ∀ c : ChanId, part = 1#8 → b.toNat = c.val →
        exec .readConfig s = .next (answered s h f (.readChannelConfig c (s.settings c)))) ∧
  ∀ (s : State) (h : HostId) (f : Frame), Served .readProposal s h f →
    (f.body ≠ [] → exec .readProposal s = .next (refusedWith s h f .badValue)) ∧
    (f.body = [] → s.proposal = none → exec .readProposal s = .next (answered s h f (.readProposal none))) ∧
    ∀ p, f.body = [] → s.proposal = some p →
      exec .readProposal s = .next (answered s h f (.readProposal (some
        { id := p.id, proposer := p.proposer, change := p.change, electorate := p.electorate, consents := p.consents,
          remaining := max 1 ((p.window - s.now + 3) / 4) })))

/-- PROPOSE is refused BAD_VALUE for a kind above 9 or a body not of its kind's length, PROPOSAL_BUSY while a proposal is open,
else with the reason of its validation, kind by kind over the bytes of its arguments; a change that passes opens a proposal
whose electorate is the attached hosts, without the owner of a grant to be forced off, and whose window is 3000 ms, or is
adopted at once when the proposer alone is to consent (R146, R148, R149, R150, R157). -/
def Obligations.ProposeOpensOrAdopts : Prop :=
  ∀ (s : State) (h : HostId) (f : Frame) (straps : BitVec 2), Served .propose s h f →
    let Refuses := fun (reason : Reason) => exec (.propose straps) s = .next (refusedWith s h f reason)
    (readChange f.body = none → Refuses .badValue) ∧
    (f.body = [] → Refuses .badValue) ∧
    (∀ kind args, f.body = kind :: args →
      10 ≤ kind.toNat ∨ args.length ≠ [4, 3, 7, 3, 2, 2, 1, 1, 3, 0].getD kind.toNat 0 → Refuses .badValue) ∧
    (∀ kind args, f.body = kind :: args → kind.toNat ≤ 9 →
      args.length = [4, 3, 7, 3, 2, 2, 1, 1, 3, 0].getD kind.toNat 0 → s.proposal ≠ none → Refuses .proposalBusy) ∧
    (s.proposal = none →
      (∀ a b c d, f.body = [0#8, a, b, c, d] →
        65000 < word2 a b ∨ 65000 < word2 c d ∨ word2 a b < word2 c d → Refuses .badValue) ∧
      (∀ c a b, f.body = [1#8, c, a, b] →
        (8 ≤ c.toNat → Refuses .badChannel) ∧
        (c.toNat < 8 → word2 a b = 0 ∨ 40000 < word2 a b → Refuses .badValue)) ∧
      (∀ c a b d e l g, f.body = [2#8, c, a, b, d, e, l, g] →
        (8 ≤ c.toNat → Refuses .badChannel) ∧
        (c.toNat < 8 →
          word2 a b < 10 ∨ 1000 < word2 a b ∨ word2 d e < 100 ∨ 30000 < word2 d e ∨ 7 < l.toNat ∨ 1 < g.toNat →
          Refuses .badValue)) ∧
      (∀ k a b, f.body = [3#8, k, a, b] → 4 ≤ k.toNat ∨ 65000 < word2 a b → Refuses .badValue) ∧
      (∀ a b, f.body = [4#8, a, b] → word2 a b < 500 ∨ 60000 < word2 a b → Refuses .badValue) ∧
      (∀ a b, f.body = [5#8, a, b] → word2 a b ≠ 0 → word2 a b < 100 ∨ 60000 < word2 a b → Refuses .badValue) ∧
      (∀ n, f.body = [6#8, n] → 7 < n.toNat → Refuses .badValue) ∧
      (∀ b, f.body = [7#8, b] →
        (8 ≤ b.toNat → Refuses .badChannel) ∧
        ∀ c : ChanId, b.toNat = c.val → (s.chan c).state ≠ .faulted → Refuses .badState) ∧
      ∀ b hi lo, f.body = [8#8, b, hi, lo] →
        (8 ≤ b.toNat → Refuses .badChannel) ∧
        ∀ c : ChanId, b.toNat = c.val →
          (word2 hi lo = 0 → Refuses .badValue) ∧
          (word2 hi lo ≠ 0 →
            ((∀ g, s.slot c = some g → g.number ≠ word2 hi lo) → Refuses .badState) ∧
            ∀ g, s.slot c = some g → g.number = word2 hi lo →
              ((s.chan c).state = .discharging → Refuses .badState) ∧
              ((s.chan c).state ≠ .discharging → g.owner = h → Refuses .notOwner))) ∧
    ∀ raw, readChange f.body = some raw →
      (s.proposal ≠ none → exec (.propose straps) s = .next (refusedWith s h f .proposalBusy)) ∧
      (∀ r, s.proposal = none → s.validate h raw = .error r → exec (.propose straps) s = .next (refusedWith s h f r)) ∧
      ∀ ch, s.proposal = none → s.validate h raw = .ok ch →
        ∃ (p : Proposal) (u : State), p.id = s.nextProposal ∧ p.proposer = h ∧ p.change = ch ∧
          p.window = s.now + ms 3000 ∧ (∀ k, p.consents.read k = true ↔ k = h) ∧
          (∀ k, p.electorate.read k = true ↔
            s.attached k = true ∧ ∀ c n, ch = .forceRelease c n → s.holds k c = false) ∧
          u = { taken s h with nextProposal := if s.nextProposal < 255 then s.nextProposal + 1 else 1 } ∧
          (p.consents = p.electorate →
            exec (.propose straps) s = .next ((u.adoptProposal straps p).respond h f (.propose p.id .adopted p.electorate))) ∧
          (p.consents ≠ p.electorate →
            ∃ v : State, exec (.propose straps) s = .next (v.respond h f (.propose p.id .opened p.electorate)) ∧
              v = { u with proposal := some p, outboxes := v.outboxes } ∧
              ∀ k, v.outbox k =
                if p.electorate.read k = true ∧ k ≠ h then
                  arrive (.proposalOpened p.id h ch) (s.outbox k)
                else s.outbox k)

/-- A proposal laid out as R146, R149 and R189 give reads back, and passes its validation, with every argument at every value
R149 admits. -/
def Obligations.ProposalBodyReadsBack : Prop :=
  ∀ (s : State) (h : HostId) (ch : Change), Change.InRange ch →
    (∀ c, ch = .clearChannelFault c → (s.chan c).state = .faulted) →
    (∀ c n, ch = .forceRelease c n → 1 ≤ n ∧ n ≤ 65535 ∧ (s.chan c).state ≠ .discharging ∧
      ∃ g, s.slot c = some g ∧ g.number = n ∧ g.owner ≠ h) →
    ∃ raw, readChange ch.bytes = some raw ∧ s.validate h raw = .ok ch

/-- CONSENT, the first matching line of R151's table deciding: wrong length, another id or none open, not an elector, a consent
given already, a consent that leaves an elector lacking, and the last consent, at which the proposal is adopted and the
response follows the adoption's notices (R151, R156). -/
def Obligations.ConsentFollowsItsTable : Prop :=
  ∀ (s : State) (h : HostId) (f : Frame) (straps : BitVec 2), Served .consent s h f →
    (f.body.length ≠ 1 → exec (.consent straps) s = .next (refusedWith s h f .badValue)) ∧
    ∀ id, f.body = [id] →
      ((∀ p, s.proposal = some p → p.id ≠ id.toNat) →
        exec (.consent straps) s = .next (refusedWith s h f .noProposal)) ∧
      ∀ p, s.proposal = some p → p.id = id.toNat →
        (p.electorate.read h = false → exec (.consent straps) s = .next (refusedWith s h f .notElector)) ∧
        (p.electorate.read h = true → p.consents.read h = true →
          exec (.consent straps) s = .next (answered s h f (.consent p.id .opened))) ∧
        (p.electorate.read h = true → p.consents.read h = false →
          ∃ q, q = { p with consents := q.consents } ∧
            (∀ k, q.consents.read k = true ↔ k = h ∨ p.consents.read k = true) ∧
            (q.consents ≠ q.electorate →
              exec (.consent straps) s = .next (answered { s with proposal := some q } h f (.consent p.id .opened))) ∧
            (q.consents = q.electorate →
              ∃ t, Broadcast (.proposalClosed p.id .adopted none)
                  (State.adopt straps p.change { taken s h with proposal := none }) t ∧
                exec (.consent straps) s = .next (t.respond h f (.consent p.id .adopted))))

/-- DISSENT by an elector, WITHDRAW by the proposer and the window timer's expiry close the proposal with no effect but the
PROPOSAL_CLOSED broadcast, and the response after it; other requesters and ids are refused (R152, R153, R154, R156; the clock
is the model's, log entry 2). -/
def Obligations.ProposalClosesWithoutEffect : Prop :=
  (∀ (s : State) (h : HostId) (f : Frame), Served .dissent s h f →
    (f.body.length ≠ 1 → exec .dissent s = .next (refusedWith s h f .badValue)) ∧
    ∀ id, f.body = [id] →
      ((∀ p, s.proposal = some p → p.id ≠ id.toNat) → exec .dissent s = .next (refusedWith s h f .noProposal)) ∧
      ∀ p, s.proposal = some p → p.id = id.toNat →
        (p.electorate.read h = false → exec .dissent s = .next (refusedWith s h f .notElector)) ∧
        (p.electorate.read h = true →
          ∃ t, Broadcast (.proposalClosed p.id .rejected (some h)) { taken s h with proposal := none } t ∧
            exec .dissent s = .next (t.respond h f (.dissent p.id)))) ∧
  (∀ (s : State) (h : HostId) (f : Frame), Served .withdraw s h f →
    (f.body.length ≠ 1 → exec .withdraw s = .next (refusedWith s h f .badValue)) ∧
    ∀ id, f.body = [id] →
      ((∀ p, s.proposal = some p → p.id ≠ id.toNat) → exec .withdraw s = .next (refusedWith s h f .noProposal)) ∧
      ∀ p, s.proposal = some p → p.id = id.toNat →
        (p.proposer ≠ h → exec .withdraw s = .next (refusedWith s h f .notOwner)) ∧
        (p.proposer = h →
          ∃ t, Broadcast (.proposalClosed p.id .withdrawn none) { taken s h with proposal := none } t ∧
            exec .withdraw s = .next (t.respond h f (.withdraw p.id)))) ∧
  ∀ (s : State) (p : Proposal), s.proposal = some p →
    ∃ t, exec .windowTimerExpiry s = .next t ∧
      Broadcast (.proposalClosed p.id .expired none) { s with now := max s.now p.window, proposal := none } t

/-- What the adoptions of SET_LEASE, SET_CHANNEL_TIMING, SET_AVERAGING, CLEAR_CHANNEL_FAULT, SET_QUEUE_AGE and FORCE_RELEASE
do, and that they do nothing else; FORCE_RELEASE acts on a grant of the number it names that is not DISCHARGING, and on no
other (R35, R55, R89, R103, R160, R162, R163, R164). -/
def Obligations.AdoptionsChangeWhatTheyName : Prop :=
  ∀ (s : State) (straps : BitVec 2),
    (∀ p, s.adopt straps (.setLease p) = { s with config := { s.config with leasePeriod := p } }) ∧
    (∀ c r o l g, s.adopt straps (.setChannelTiming c r o l g) =
      { s with
        config :=
          { s.config with
            channels := s.config.channels.upd c fun k =>
              { k with rampWindow := r, holdoff := o, retryLimit := l, pgInput := g } } }) ∧
    (∀ n, ∃ t, s.adopt straps (.setAveraging n) = t ∧
      t = { s with config := { s.config with averaging := n }, meas := t.meas } ∧
      ∀ c, t.measure c = { s.measure c with ring := List.replicate (2 ^ n) 0, average := 0, peak := 0 }) ∧
    (∀ c, (s.chan c).state = .faulted →
      s.adopt straps (.clearChannelFault c) = { s with channels := s.channels.upd c fun _ => Channel.rest .idle }) ∧
    (∀ a, ∃ t, t = { s with
          config := { s.config with blockingAge := a }
          queue := s.queue.judge s.now a } ∧
      s.adopt straps (.setQueueAge a) =
        if s.queue.headBlocking = true ∧ t.queue.headBlocking = false then t.scanQueue else t) ∧
    ∀ c n,
      ((∀ g, s.slot c = some g → g.number ≠ n ∨ (s.chan c).state = .discharging) →
        s.adopt straps (.forceRelease c n) = s) ∧
      ∀ g, s.slot c = some g → g.number = n → s.adopt straps (.forceRelease c n) = s.releaseGrant c .forced

/-- Adoption of SET_BUDGET replaces both levels and recomputes the total, which is then the level the derate state selects.
An equal total changes nothing else; a lower one is broadcast with cause CONFIG, after shedding down to it when the held total
exceeds it; a higher one is broadcast with cause CONFIG, and a scan follows. Adoption of SET_CEILING or SET_HOST_CAP replaces
the one figure, removes every waiting entry above it with CLAIM_FAILED OVER_CEILING or OVER_HOST_CAP to its host, scans once
when an entry left or the cap rose, and touches no grant's amount (R6, R14, R60, R61, R64, R158, R159, R161). -/
def Obligations.AdoptedLimitsBindTheQueue : Prop :=
  ∀ (s : State) (straps : BitVec 2),
    (∀ (n d new : Nat) (t u : State), s.adopt straps (.setBudget n d) = t →
      new = (if s.budget.derateTaken then d else n) →
      u = { s with
            config := { s.config with normal := n, derated := d }
            budget := { s.budget with total := new } } →
      t.config = u.config ∧ t.budget.total = new ∧
      (new = s.budget.total → t = u) ∧
      (new < s.budget.total → s.held ≤ new → Broadcast (.budgetChanged new s.budget.reserved .config) u t) ∧
      (∀ v, new < s.budget.total → v = u.shed u.grants.admission.length →
        Broadcast (.budgetChanged new v.budget.reserved .config) v t ∧
        (TableLaw s → AccountLaw s → PositiveLaw s → v.held ≤ new)) ∧
      (s.budget.total < new →
        ∃ v, Broadcast (.budgetChanged new s.budget.reserved .config) u v ∧ t = v.scanQueue)) ∧
    (∀ (c : ChanId) (v : Nat) (hit : WaitEntry → Bool),
      (∀ e, hit e = true ↔ ∃ i ∈ e.items, i.channel = c ∧ v < i.amount) →
      ∃ t u w : State, s.adopt straps (.setCeiling c v) = t ∧
      u = { s with config := { s.config with channels := s.config.channels.upd c fun k => { k with ceiling := v } } } ∧
      Failed hit .overCeiling u w ∧
      t = (if s.queue.entries.any hit then
          State.scanQueue (State.setEntries (s.queue.entries.filter fun e => !hit e) w)
        else u) ∧
      t.config = u.config ∧
      (∀ e ∈ t.queue.entries, e ∈ s.queue.entries ∧ ∀ i ∈ e.items, i.channel = c → i.amount ≤ v) ∧
      ∀ d g, s.slot d = some g → t.slot d = some g) ∧
    ∀ (h : HostId) (v : Nat) (hit : WaitEntry → Bool),
      (∀ e, hit e = true ↔ e.host = h ∧ v < (e.items.map Item.amount).sum) →
      ∃ t u w : State, s.adopt straps (.setHostCap h v) = t ∧
      u = { s with config := { s.config with caps := s.config.caps.upd h fun _ => v } } ∧
      Failed hit .overHostCap u w ∧
      t = (if s.queue.entries.any hit = true ∨ s.cap h < v then
          State.scanQueue (State.setEntries (s.queue.entries.filter fun e => !hit e) w)
        else u) ∧
      t.config = u.config ∧
      (∀ e ∈ t.queue.entries, e ∈ s.queue.entries ∧ (e.host = h → e.sum ≤ v)) ∧
      ∀ d g, s.slot d = some g → t.slot d = some g

/-- Adoption of RESET_PART, its six steps in order: every waiting entry out with CLAIM_FAILED RESET to its host, every grant
released with cause RESET, the configuration at its defaults with the levels of the straps as they stand at the adoption, the
total recomputed, every ring and peak restarted, every tally zeroed. The queue is then empty, every grant left DISCHARGING, the
total follows the derate state, and every session, the ports, filter and counters are kept (R2, R18, R36, R64, R67, R103, R120,
R141, R165; that the levels on the straps come with the command is the model's form, log entry 7). -/
def Obligations.AdoptedResetPartReturnsTheDefaults : Prop :=
  ∀ (s t : State) (straps : BitVec 2), t = s.adopt straps .resetPart →
    (∃ w, Failed (fun _ => true) .reset { s with pins := { s.pins with straps := straps } } w ∧
      t = State.zeroTallies (State.restartRings (State.recompute .config
        { State.releaseAll (fun _ => true) .reset (State.setEntries [] w) with
          config := Configuration.default straps }))) ∧
    t.config = Configuration.default straps ∧
    (∀ c, (t.measure c).ring = List.replicate 8 0 ∧ (t.measure c).average = 0 ∧ (t.measure c).peak = 0) ∧
    (∀ h, t.tally h = { accumulator := 0, rollovers := 0, samples := 0 }) ∧
    t.budget.total = (if s.budget.derateTaken then Config.deratedLevel straps else Config.normalLevel straps) ∧
    t.grants.nextNumber = s.grants.nextNumber ∧ t.queue.nextArrival = s.queue.nextArrival ∧
    t.nextProposal = s.nextProposal ∧ t.ports = s.ports ∧ t.budget.derateTaken = s.budget.derateTaken ∧
    t.budget.derateHold = s.budget.derateHold ∧ t.pins = { s.pins with straps := straps } ∧
    (∀ h, s.attached h = true → t.session h = s.session h) ∧ (OwnershipLaw s → t.sessions = s.sessions) ∧
    t.queue.entries = [] ∧
    (BlockingLaw s → t.queue.headBlocking = false) ∧
    (TableLaw s →
      (∀ c g, t.slot c = some g → (t.chan c).state = .discharging ∧ ∃ k, s.slot c = some k ∧ k.number = g.number) ∧
      ∀ c, (s.chan c).state = .faulted ∨ (s.chan c).state = .idle → t.chan c = s.chan c)

/-! ### Dispatch and the arbiter -/

/-- The arbiter takes nothing while RESET is held low; else the frame of the first port that holds one, counting from the
pointer upward and wrapping from 3 to 0 (R185). -/
def Obligations.ArbiterTakesInRotatingOrder : Prop :=
  ∀ s : State,
    (s.pins.resetLow = true → s.nextFrame = none) ∧
    (s.pins.resetLow = false →
      (s.nextFrame = none ↔ ∀ h, (s.port h).buffer = none) ∧
      ∀ h f, s.nextFrame = some (h, f) ↔
        (s.port h).buffer = some f ∧ ∀ k : HostId, (k - s.pointer).val < (h - s.pointer).val → (s.port k).buffer = none)

/-- A request other than QUERY_PART and ATTACH from a host that is not attached is answered NOT_ATTACHED and reaches no block;
a kind byte outside R186's table is answered BAD_REQUEST in every session state, an attached host's lease renewed (R127,
R134, R138, R186; for a CLEAR_TRIP, a RESIZE or a READ_CHANNEL taken after its owner's
teardown the model's choice, log entries 32 and 34). -/
def Obligations.DispatchAnswersWithoutHandling : Prop :=
  (∀ (k : RequestKind) (straps : BitVec 2) (s : State) (h : HostId) (f : Frame), Next k s h f →
    k ≠ .queryPart → k ≠ .attach → s.attached h = false →
    exec (requestRow straps k) s = .next (refusedWith s h f .notAttached)) ∧
  ∀ (s : State) (h : HostId) (f : Frame), s.nextFrame = some (h, f) → kindOf f.kind = none →
    exec .unknownRequestKind s = .next (refusedWith s h f .badRequest)

/-- A command whose event is not at hand changes nothing: a request row when the next frame is of another kind or there is
none, an expiry of a timer that does not run, the completion of a slot that is not in progress, a sample that reaches no limit,
an edge of RESET or of select that is none, the code of a known transaction as an unknown one, a second fixing of a head (the
model's choice, log entries 3 to 6 and 10; R78, R80, R83, R87: a cancelled timer does not expire; R97: slots complete in
order). -/
def Obligations.EventsNotAtHandChangeNothing : Prop :=
  ∀ s : State,
    (∀ k straps, (∀ h f, ¬ Next k s h f) → exec (requestRow straps k) s = .next s) ∧
    ((∀ h f, s.nextFrame = some (h, f) → kindOf f.kind ≠ none) → exec .unknownRequestKind s = .next s) ∧
    (∀ c, (∀ e, (s.chan c).timer ≠ some { kind := .ramp, expiry := e }) → exec (.rampTimerExpiry c) s = .next s) ∧
    (∀ c, (∀ e, (s.chan c).timer ≠ some { kind := .grace, expiry := e }) → exec (.graceTimerExpiry c) s = .next s) ∧
    (∀ c, (∀ e, (s.chan c).timer ≠ some { kind := .holdoff, expiry := e }) →
      exec (.holdoffTimerExpiry c) s = .next s) ∧
    (∀ c, (∀ e, (s.chan c).timer ≠ some { kind := .discharge, expiry := e }) →
      exec (.dischargeTimerExpiry c) s = .next s) ∧
    (∀ h straps, (s.session h).lease = none → exec (.leaseExpiry h straps) s = .next s) ∧
    (s.proposal = none → exec .windowTimerExpiry s = .next s) ∧
    (s.queue.blockingTimer = none → exec .blockingTimerExpiry s = .next s) ∧
    (∀ h tag, (∀ e ∈ s.queue.entries, e.host = h → e.tag = tag → e.deadline = none) →
      exec (.deadlineExpiry h tag) s = .next s) ∧
    (s.budget.derateHold = none → exec .derateHoldExpiry s = .next s) ∧
    (∀ c r, (∀ sc, s.scan = some sc → sc.slot ≠ c) →
      exec (.slotCompletion c r) s = .next s ∧ exec (.overdrawCountFull c r) s = .next s ∧
        exec (.idleFaultLimit c r) s = .next s) ∧
    (∀ r, (∀ sc, s.scan = some sc → sc.slot = 7 → s.rounds ≠ 7) → exec (.startUpEnd r) s = .next s) ∧
    (∀ c r, s.verdict c (sampleOf r) ≠ .overdraw → exec (.overdrawCountFull c r) s = .next s) ∧
    (∀ c r, s.idleLimitReached c (sampleOf r) = false → exec (.idleFaultLimit c r) s = .next s) ∧
    (∀ h code b, (s.port h).select = some b →
      exec (.status h .fall) s = .next s ∧ (∀ stray, exec (.request h .fall stray) s = .next s) ∧
        exec (.peek h .fall) s = .next s ∧ exec (.take h .fall) s = .next s ∧
        exec (.unknownTransaction h code .fall) s = .next s) ∧
    (∀ h code e, code = 0x00#8 ∨ code = 0x5A#8 ∨ code = 0x6C#8 ∨ code = 0x6D#8 →
      exec (.unknownTransaction h code e) s = .next s) ∧
    (∀ h x, (s.port h).fix = some x → exec (.outboxHeadFix h) s = .next s) ∧
    (∀ straps, s.pins.resetLow = true → exec (.resetFall straps) s = .next s) ∧
    ∀ straps, s.pins.resetLow = false → exec (.resetRelease straps) s = .next s

/-! ### Outboxes and the link -/

/-- What the arrival of a notice does to an attached host's outbox, by the notices held and a standing marker, and that no
other outbox and nothing else changes (R170, R171). -/
def Obligations.NoticeArrivalFollowsItsTable : Prop :=
  ∀ (s : State) (h : HostId) (n : Notice), s.attached h = true →
    ((∀ e ∈ s.outbox h, e.isMarker = false) → notices (s.outbox h) ≤ 3 →
      s.post h n = { s with outboxes := s.outboxes.upd h (· ++ [.notice n]) }) ∧
    (∀ front y back, (∀ e ∈ s.outbox h, e.isMarker = false) → notices (s.outbox h) = 4 →
      s.outbox h = front ++ .notice y :: back → notices back = 0 →
      s.post h n = { s with outboxes := s.outboxes.upd h fun _ => front ++ .notice (.noticesLost 2) :: back }) ∧
    ∀ front k back, s.outbox h = front ++ .notice (.noticesLost k) :: back →
      (∀ e ∈ front ++ back, e.isMarker = false) →
      s.post h n =
        { s with outboxes := s.outboxes.upd h fun _ => front ++ .notice (.noticesLost (min (k + 1) 255)) :: back }

/-- Undelivered responses with a held frame are at most 4, notices at most 4, and a marker is the youngest notice, through
every step (R168, R169, R171). -/
def Obligations.OutboxLawKept : Prop := Kept OutboxLaw

/-- A REQUEST transaction is judged at the rise of select, the first line of R183's table that applies giving the result; only
an accepted frame enters the input buffer, and nothing but the port changes (R183; that a held frame is judged before the
responses also where R169 says FULL is the model's choice, log entry 36). -/
def Obligations.RequestIsJudgedByItsTable : Prop :=
  ∀ (s : State) (h : HostId) (frame : List Byte) (stray : Fin 8),
    let Result := fun (result : FrameResult) (buffer : Option Frame) =>
      ∃ t, exec (.request h (.rise frame) stray) s = .next t ∧ t = { s with ports := t.ports } ∧
        t.port h =
          { s.port h with result := result, buffer := buffer, select := none, fix := none, sdo := (t.port h).sdo } ∧
        ∀ k, k ≠ h → t.port k = s.port k
    (s.ready = false → Result .notReady (s.port h).buffer) ∧
    (s.ready = true →
      ((frame.length < 3 ∨ stray ≠ 0) → Result .malformed (s.port h).buffer) ∧
      ∀ kind tag len rest, frame = kind :: tag :: len :: rest → stray = 0 →
        (24 < len.toNat ∨ frame.length ≠ 4 + len.toNat → Result .malformed (s.port h).buffer) ∧
        (len.toNat ≤ 24 → frame.length = 4 + len.toNat →
          (crc frame ≠ 0#8 → Result .checkError (s.port h).buffer) ∧
          (crc frame = 0#8 →
            (∀ held, (s.port h).buffer = some held → Result .bufferBusy (some held)) ∧
            ((s.port h).buffer = none → 4 ≤ responses (s.outbox h) → Result .full none) ∧
            ((s.port h).buffer = none → responses (s.outbox h) < 4 →
              Result .accepted (some { kind := kind, tag := tag, body := rest.take len.toNat })))))

/-- Any frame of at most 24 body bytes, closed by its check byte, checks to 0 and is read back whole; any bytes closed by
theirs check to 0 (R181, R182, R183). -/
def Obligations.RequestFrameReadsBack : Prop :=
  (∀ bytes : List Byte, crc (closed bytes) = 0#8) ∧
  ∀ f : Frame, f.body.length ≤ 24 →
    let frame := closed (f.kind :: f.tag :: BitVec.ofNat 8 f.body.length :: f.body)
    malformed frame 0 = false ∧ frameOf frame = some f

/-- The fall of select composes the status byte of its transaction, whatever the code that follows. STATUS and an unknown code
clock out that byte and 00h after it and change nothing else, and a transaction cut short within its first byte has no effect;
REQUEST clocks out that byte and 00h; the fixing of the head stores it; PEEK and TAKE clock out that byte and the frame of the
head fixed for them, or EMPTY; PEEK leaves every outbox as it is; a TAKE with no head fixed acts as one whose head is fixed at
its end; no entry's frame begins with FFh as the EMPTY frame does (R173, R174, R179, R180, R188; what follows the first byte of
STATUS, and a transaction that no command began or fixed a head for, are the model's, log entries 10, 11 and 12). -/
def Obligations.StatusAndPeekShowThePort : Prop :=
  (∀ (s : State) (h : HostId), (s.port h).select = none →
    ∀ i code stray, i ∈ [Instr.status h .fall, .request h .fall stray, .peek h .fall, .take h .fall,
        .unknownTransaction h code .fall] →
      code ∉ [0x00#8, 0x5A#8, 0x6C#8, 0x6D#8] →
      exec i s = .next
        { s with
          ports := s.ports.upd h fun p => { p with select := some { status := s.statusByte h, spares := false } } }) ∧
  (∀ (s : State) (h : HostId) (shown : Byte) (y : Selection),
    y = (s.port h).select.getD { status := s.statusByte h, spares := false } → shown = y.status →
    let Ends := fun (bytes : List Byte) =>
      { s with ports := s.ports.upd h fun p => { p with select := none, fix := none, sdo := bytes } }
    (∀ bits, bits < 8 → exec (.status h (.rise bits)) s = .next
      { s with ports := s.ports.upd h fun p => { p with select := none, fix := none } }) ∧
    (∀ bits, 8 ≤ bits → exec (.status h (.rise bits)) s = .next (Ends (shown :: List.replicate (bits / 8 - 1) 0#8))) ∧
    (∀ code n, code ∉ [0x00#8, 0x5A#8, 0x6C#8, 0x6D#8] →
      exec (.unknownTransaction h code (.rise n)) s = .next (Ends (shown :: List.replicate n 0#8))) ∧
    (∀ frame stray, ∃ t, exec (.request h (.rise frame) stray) s = .next t ∧
      (t.port h).sdo = shown :: List.replicate frame.length 0#8) ∧
    ((s.port h).fix = none → exec (.outboxHeadFix h) s = .next
      { s with
        ports := s.ports.upd h fun p =>
          { p with select := some y, fix := some { entry := (s.outbox h).head? } } }) ∧
    ∀ (n : Nat) (x : HeadFix) (bytes : List Byte),
      x = (s.port h).fix.getD { entry := (s.outbox h).head? } →
      bytes = ((match x.entry with
        | none => [0xFF#8, 0x00#8, 0x00#8, 0x00#8, 0x00#8, 0x39#8]
        | some e => e.frame) ++ List.replicate n 0#8).take n →
      exec (.peek h (.rise n)) s = .next (Ends (shown :: bytes)) ∧
      (∃ t, exec (.take h (.rise n)) s = .next t ∧ t = { Ends (shown :: bytes) with outboxes := t.outboxes }) ∧
      ∀ u, (s.port h).fix = none → exec (.outboxHeadFix h) s = .next u →
        exec (.take h (.rise n)) s = exec (.take h (.rise n)) u) ∧
  (∀ (s : State) (h : HostId), (s.outbox h).length ≤ 8 →
    (s.statusByte h).toNat = 128 * s.ready.toNat + 16 * (s.port h).result.code + (s.outbox h).length) ∧
  ∀ e : OutEntry, e.frame.head? ≠ some 0xFF#8

/-- TAKE removes the head it fixed once its whole frame was clocked out and the entry still stands: a marker is reduced by the
count clocked out and removed at 0, any other entry removed. Cut short, after a flush or a fall of RESET since it began, or with
the EMPTY frame it removes nothing. Other outboxes and all else stay (R174, R175, R177, R188, R190; that a TAKE with no head
fixed fixes it here, and that a TAKE is spared whose head is fixed after the flush, are the model's choices, log entries 11
and 33). -/
def Obligations.TakeRemovesTheHeadItClockedOut : Prop :=
  ∀ (s : State) (h : HostId) (n : Nat) (x : HeadFix) (spares : Bool),
    x = (s.port h).fix.getD { entry := (s.outbox h).head? } →
    spares = (s.port h).select.elim false Selection.spares →
    ∃ t, exec (.take h (.rise n)) s = .next t ∧
      t = { s with ports := t.ports, outboxes := s.outboxes.upd h fun _ => t.outbox h } ∧
      (t.port h).buffer = (s.port h).buffer ∧ (t.port h).result = (s.port h).result ∧ (t.port h).fix = none ∧
      (t.port h).select = none ∧
      (∀ k, k ≠ h → t.port k = s.port k) ∧
      (x.entry = none → t.outbox h = s.outbox h) ∧
      ∀ e, x.entry = some e →
        (n < e.frame.length ∨ spares = true → t.outbox h = s.outbox h) ∧
        (e.frame.length ≤ n → spares = false →
          (∀ rest, e.isMarker = false → s.outbox h = e :: rest → t.outbox h = rest) ∧
          ∀ k m rest, e = .notice (.noticesLost k) → s.outbox h = .notice (.noticesLost m) :: rest →
            (m ≤ k → t.outbox h = rest) ∧
            (k < m → t.outbox h = .notice (.noticesLost (m - k)) :: rest))
end

