-- ==== Sys2Proof/Laws/State.lean ====
section
/-! SUPPORT. What each update of the state leaves as it was and what it makes of the record it changes, one lemma per field,
so that no later proof unfolds a record update. -/

namespace Sys2Proof

/-! ### Tables -/

section Tables
variable {n : Nat} {α : Type}

@[simp] theorem Table.read_upd_self (t : Table n α) (i : Fin n) (f : α → α) : (t.upd i f).read i = f (t.read i) := by
  simp [Table.read, Table.upd]

theorem Table.read_upd_of_ne (t : Table n α) {i j : Fin n} (f : α → α) (h : j ≠ i) : (t.upd i f).read j = t.read j := by
  have hv : i.val ≠ j.val := fun e => h (Fin.ext e.symm)
  simp [Table.read, Table.upd, hv]

theorem Table.read_upd (t : Table n α) (i j : Fin n) (f : α → α) :
    (t.upd i f).read j = if j = i then f (t.read j) else t.read j := by
  split
  · next h => subst h; exact Table.read_upd_self ..
  · next h => exact Table.read_upd_of_ne _ _ h

@[simp] theorem Table.read_const (a : α) (i : Fin n) : (Table.const n a).read i = a := by
  simp [Table.read, Table.const]

theorem Table.ext_read {t u : Table n α} (h : ∀ i, t.read i = u.read i) : t = u := by
  apply Vector.ext
  intro i hi
  simpa [Table.read] using h ⟨i, hi⟩

theorem Table.upd_congr (t : Table n α) (i : Fin n) {f g : α → α} (h : f (t.read i) = g (t.read i)) :
    t.upd i f = t.upd i g := by
  simp only [Table.upd, Table.read, Fin.getElem_fin] at h ⊢
  rw [h]

theorem Table.upd_id (t : Table n α) (i : Fin n) {f : α → α} (h : f (t.read i) = t.read i) : t.upd i f = t := by
  apply Table.ext_read
  intro j
  rw [Table.read_upd]
  split
  · next e => subst e; exact h
  · rfl

theorem Table.upd_upd (t : Table n α) (i : Fin n) (f g : α → α) : (t.upd i f).upd i g = t.upd i fun a => g (f a) := by
  apply Table.ext_read
  intro j
  simp only [Table.read_upd]
  split <;> rfl

theorem Table.upd_comm (t : Table n α) {i j : Fin n} (f g : α → α) (h : i ≠ j) :
    (t.upd i f).upd j g = (t.upd j g).upd i f := by
  apply Table.ext_read
  intro k
  simp only [Table.read_upd]
  by_cases hi : k = i <;> by_cases hj : k = j <;> simp_all

end Tables

namespace Machine

variable (s : State)

/-! ### reach -/

@[simp] theorem State.reach_pending (t : Nat) : (s.reach t).pending = s.pending := rfl
@[simp] theorem State.reach_pins (t : Nat) : (s.reach t).pins = s.pins := rfl
@[simp] theorem State.reach_budget (t : Nat) : (s.reach t).budget = s.budget := rfl
@[simp] theorem State.reach_grants (t : Nat) : (s.reach t).grants = s.grants := rfl
@[simp] theorem State.reach_queue (t : Nat) : (s.reach t).queue = s.queue := rfl
@[simp] theorem State.reach_channels (t : Nat) : (s.reach t).channels = s.channels := rfl
@[simp] theorem State.reach_meas (t : Nat) : (s.reach t).meas = s.meas := rfl
@[simp] theorem State.reach_scan (t : Nat) : (s.reach t).scan = s.scan := rfl
@[simp] theorem State.reach_rounds (t : Nat) : (s.reach t).rounds = s.rounds := rfl
@[simp] theorem State.reach_tallies (t : Nat) : (s.reach t).tallies = s.tallies := rfl
@[simp] theorem State.reach_sessions (t : Nat) : (s.reach t).sessions = s.sessions := rfl
@[simp] theorem State.reach_config (t : Nat) : (s.reach t).config = s.config := rfl
@[simp] theorem State.reach_proposal (t : Nat) : (s.reach t).proposal = s.proposal := rfl
@[simp] theorem State.reach_nextProposal (t : Nat) : (s.reach t).nextProposal = s.nextProposal := rfl
@[simp] theorem State.reach_outboxes (t : Nat) : (s.reach t).outboxes = s.outboxes := rfl
@[simp] theorem State.reach_ports (t : Nat) : (s.reach t).ports = s.ports := rfl
@[simp] theorem State.reach_ready (t : Nat) : (s.reach t).ready = s.ready := rfl
@[simp] theorem State.reach_pointer (t : Nat) : (s.reach t).pointer = s.pointer := rfl
@[simp] theorem State.reach_chan (t : Nat) (d : ChanId) : (s.reach t).chan d = s.chan d := rfl
@[simp] theorem State.reach_measure (t : Nat) (d : ChanId) : (s.reach t).measure d = s.measure d := rfl
@[simp] theorem State.reach_slot (t : Nat) (d : ChanId) : (s.reach t).slot d = s.slot d := rfl
@[simp] theorem State.reach_session (t : Nat) (k : HostId) : (s.reach t).session k = s.session k := rfl
@[simp] theorem State.reach_tally (t : Nat) (k : HostId) : (s.reach t).tally k = s.tally k := rfl
@[simp] theorem State.reach_outbox (t : Nat) (k : HostId) : (s.reach t).outbox k = s.outbox k := rfl
@[simp] theorem State.reach_port (t : Nat) (k : HostId) : (s.reach t).port k = s.port k := rfl
@[simp] theorem State.reach_settings (t : Nat) (d : ChanId) : (s.reach t).settings d = s.settings d := rfl
@[simp] theorem State.reach_cap (t : Nat) (k : HostId) : (s.reach t).cap k = s.cap k := rfl
@[simp] theorem State.reach_hostReserved (t : Nat) (k : HostId) : (s.reach t).hostReserved k = s.hostReserved k := rfl
@[simp] theorem State.reach_attached (t : Nat) (k : HostId) : (s.reach t).attached k = s.attached k := rfl

/-! ### withChannel -/

@[simp] theorem State.withChannel_pending (c : ChanId) (f : Channel → Channel) : (s.withChannel c f).pending = s.pending := rfl
@[simp] theorem State.withChannel_now (c : ChanId) (f : Channel → Channel) : (s.withChannel c f).now = s.now := rfl
@[simp] theorem State.withChannel_pins (c : ChanId) (f : Channel → Channel) : (s.withChannel c f).pins = s.pins := rfl
@[simp] theorem State.withChannel_budget (c : ChanId) (f : Channel → Channel) : (s.withChannel c f).budget = s.budget := rfl
@[simp] theorem State.withChannel_grants (c : ChanId) (f : Channel → Channel) : (s.withChannel c f).grants = s.grants := rfl
@[simp] theorem State.withChannel_queue (c : ChanId) (f : Channel → Channel) : (s.withChannel c f).queue = s.queue := rfl
@[simp] theorem State.withChannel_meas (c : ChanId) (f : Channel → Channel) : (s.withChannel c f).meas = s.meas := rfl
@[simp] theorem State.withChannel_scan (c : ChanId) (f : Channel → Channel) : (s.withChannel c f).scan = s.scan := rfl
@[simp] theorem State.withChannel_rounds (c : ChanId) (f : Channel → Channel) : (s.withChannel c f).rounds = s.rounds := rfl
@[simp] theorem State.withChannel_tallies (c : ChanId) (f : Channel → Channel) : (s.withChannel c f).tallies = s.tallies := rfl
@[simp] theorem State.withChannel_sessions (c : ChanId) (f : Channel → Channel) : (s.withChannel c f).sessions = s.sessions := rfl
@[simp] theorem State.withChannel_config (c : ChanId) (f : Channel → Channel) : (s.withChannel c f).config = s.config := rfl
@[simp] theorem State.withChannel_proposal (c : ChanId) (f : Channel → Channel) : (s.withChannel c f).proposal = s.proposal := rfl
@[simp] theorem State.withChannel_nextProposal (c : ChanId) (f : Channel → Channel) : (s.withChannel c f).nextProposal = s.nextProposal := rfl
@[simp] theorem State.withChannel_outboxes (c : ChanId) (f : Channel → Channel) : (s.withChannel c f).outboxes = s.outboxes := rfl
@[simp] theorem State.withChannel_ports (c : ChanId) (f : Channel → Channel) : (s.withChannel c f).ports = s.ports := rfl
@[simp] theorem State.withChannel_ready (c : ChanId) (f : Channel → Channel) : (s.withChannel c f).ready = s.ready := rfl
@[simp] theorem State.withChannel_pointer (c : ChanId) (f : Channel → Channel) : (s.withChannel c f).pointer = s.pointer := rfl
@[simp] theorem State.withChannel_measure (c : ChanId) (f : Channel → Channel) (d : ChanId) : (s.withChannel c f).measure d = s.measure d := rfl
@[simp] theorem State.withChannel_slot (c : ChanId) (f : Channel → Channel) (d : ChanId) : (s.withChannel c f).slot d = s.slot d := rfl
@[simp] theorem State.withChannel_session (c : ChanId) (f : Channel → Channel) (k : HostId) : (s.withChannel c f).session k = s.session k := rfl
@[simp] theorem State.withChannel_tally (c : ChanId) (f : Channel → Channel) (k : HostId) : (s.withChannel c f).tally k = s.tally k := rfl
@[simp] theorem State.withChannel_outbox (c : ChanId) (f : Channel → Channel) (k : HostId) : (s.withChannel c f).outbox k = s.outbox k := rfl
@[simp] theorem State.withChannel_port (c : ChanId) (f : Channel → Channel) (k : HostId) : (s.withChannel c f).port k = s.port k := rfl
@[simp] theorem State.withChannel_settings (c : ChanId) (f : Channel → Channel) (d : ChanId) : (s.withChannel c f).settings d = s.settings d := rfl
@[simp] theorem State.withChannel_cap (c : ChanId) (f : Channel → Channel) (k : HostId) : (s.withChannel c f).cap k = s.cap k := rfl
@[simp] theorem State.withChannel_hostReserved (c : ChanId) (f : Channel → Channel) (k : HostId) : (s.withChannel c f).hostReserved k = s.hostReserved k := rfl
@[simp] theorem State.withChannel_attached (c : ChanId) (f : Channel → Channel) (k : HostId) : (s.withChannel c f).attached k = s.attached k := rfl

/-! ### withMeasure -/

@[simp] theorem State.withMeasure_pending (c : ChanId) (f : Measurement → Measurement) : (s.withMeasure c f).pending = s.pending := rfl
@[simp] theorem State.withMeasure_now (c : ChanId) (f : Measurement → Measurement) : (s.withMeasure c f).now = s.now := rfl
@[simp] theorem State.withMeasure_pins (c : ChanId) (f : Measurement → Measurement) : (s.withMeasure c f).pins = s.pins := rfl
@[simp] theorem State.withMeasure_budget (c : ChanId) (f : Measurement → Measurement) : (s.withMeasure c f).budget = s.budget := rfl
@[simp] theorem State.withMeasure_grants (c : ChanId) (f : Measurement → Measurement) : (s.withMeasure c f).grants = s.grants := rfl
@[simp] theorem State.withMeasure_queue (c : ChanId) (f : Measurement → Measurement) : (s.withMeasure c f).queue = s.queue := rfl
@[simp] theorem State.withMeasure_channels (c : ChanId) (f : Measurement → Measurement) : (s.withMeasure c f).channels = s.channels := rfl
@[simp] theorem State.withMeasure_scan (c : ChanId) (f : Measurement → Measurement) : (s.withMeasure c f).scan = s.scan := rfl
@[simp] theorem State.withMeasure_rounds (c : ChanId) (f : Measurement → Measurement) : (s.withMeasure c f).rounds = s.rounds := rfl
@[simp] theorem State.withMeasure_tallies (c : ChanId) (f : Measurement → Measurement) : (s.withMeasure c f).tallies = s.tallies := rfl
@[simp] theorem State.withMeasure_sessions (c : ChanId) (f : Measurement → Measurement) : (s.withMeasure c f).sessions = s.sessions := rfl
@[simp] theorem State.withMeasure_config (c : ChanId) (f : Measurement → Measurement) : (s.withMeasure c f).config = s.config := rfl
@[simp] theorem State.withMeasure_proposal (c : ChanId) (f : Measurement → Measurement) : (s.withMeasure c f).proposal = s.proposal := rfl
@[simp] theorem State.withMeasure_nextProposal (c : ChanId) (f : Measurement → Measurement) : (s.withMeasure c f).nextProposal = s.nextProposal := rfl
@[simp] theorem State.withMeasure_outboxes (c : ChanId) (f : Measurement → Measurement) : (s.withMeasure c f).outboxes = s.outboxes := rfl
@[simp] theorem State.withMeasure_ports (c : ChanId) (f : Measurement → Measurement) : (s.withMeasure c f).ports = s.ports := rfl
@[simp] theorem State.withMeasure_ready (c : ChanId) (f : Measurement → Measurement) : (s.withMeasure c f).ready = s.ready := rfl
@[simp] theorem State.withMeasure_pointer (c : ChanId) (f : Measurement → Measurement) : (s.withMeasure c f).pointer = s.pointer := rfl
@[simp] theorem State.withMeasure_chan (c : ChanId) (f : Measurement → Measurement) (d : ChanId) : (s.withMeasure c f).chan d = s.chan d := rfl
@[simp] theorem State.withMeasure_slot (c : ChanId) (f : Measurement → Measurement) (d : ChanId) : (s.withMeasure c f).slot d = s.slot d := rfl
@[simp] theorem State.withMeasure_session (c : ChanId) (f : Measurement → Measurement) (k : HostId) : (s.withMeasure c f).session k = s.session k := rfl
@[simp] theorem State.withMeasure_tally (c : ChanId) (f : Measurement → Measurement) (k : HostId) : (s.withMeasure c f).tally k = s.tally k := rfl
@[simp] theorem State.withMeasure_outbox (c : ChanId) (f : Measurement → Measurement) (k : HostId) : (s.withMeasure c f).outbox k = s.outbox k := rfl
@[simp] theorem State.withMeasure_port (c : ChanId) (f : Measurement → Measurement) (k : HostId) : (s.withMeasure c f).port k = s.port k := rfl
@[simp] theorem State.withMeasure_settings (c : ChanId) (f : Measurement → Measurement) (d : ChanId) : (s.withMeasure c f).settings d = s.settings d := rfl
@[simp] theorem State.withMeasure_cap (c : ChanId) (f : Measurement → Measurement) (k : HostId) : (s.withMeasure c f).cap k = s.cap k := rfl
@[simp] theorem State.withMeasure_hostReserved (c : ChanId) (f : Measurement → Measurement) (k : HostId) : (s.withMeasure c f).hostReserved k = s.hostReserved k := rfl
@[simp] theorem State.withMeasure_attached (c : ChanId) (f : Measurement → Measurement) (k : HostId) : (s.withMeasure c f).attached k = s.attached k := rfl

/-! ### withSlot -/

@[simp] theorem State.withSlot_pending (c : ChanId) (f : Option Grant → Option Grant) : (s.withSlot c f).pending = s.pending := rfl
@[simp] theorem State.withSlot_now (c : ChanId) (f : Option Grant → Option Grant) : (s.withSlot c f).now = s.now := rfl
@[simp] theorem State.withSlot_pins (c : ChanId) (f : Option Grant → Option Grant) : (s.withSlot c f).pins = s.pins := rfl
@[simp] theorem State.withSlot_budget (c : ChanId) (f : Option Grant → Option Grant) : (s.withSlot c f).budget = s.budget := rfl
@[simp] theorem State.withSlot_queue (c : ChanId) (f : Option Grant → Option Grant) : (s.withSlot c f).queue = s.queue := rfl
@[simp] theorem State.withSlot_channels (c : ChanId) (f : Option Grant → Option Grant) : (s.withSlot c f).channels = s.channels := rfl
@[simp] theorem State.withSlot_meas (c : ChanId) (f : Option Grant → Option Grant) : (s.withSlot c f).meas = s.meas := rfl
@[simp] theorem State.withSlot_scan (c : ChanId) (f : Option Grant → Option Grant) : (s.withSlot c f).scan = s.scan := rfl
@[simp] theorem State.withSlot_rounds (c : ChanId) (f : Option Grant → Option Grant) : (s.withSlot c f).rounds = s.rounds := rfl
@[simp] theorem State.withSlot_tallies (c : ChanId) (f : Option Grant → Option Grant) : (s.withSlot c f).tallies = s.tallies := rfl
@[simp] theorem State.withSlot_sessions (c : ChanId) (f : Option Grant → Option Grant) : (s.withSlot c f).sessions = s.sessions := rfl
@[simp] theorem State.withSlot_config (c : ChanId) (f : Option Grant → Option Grant) : (s.withSlot c f).config = s.config := rfl
@[simp] theorem State.withSlot_proposal (c : ChanId) (f : Option Grant → Option Grant) : (s.withSlot c f).proposal = s.proposal := rfl
@[simp] theorem State.withSlot_nextProposal (c : ChanId) (f : Option Grant → Option Grant) : (s.withSlot c f).nextProposal = s.nextProposal := rfl
@[simp] theorem State.withSlot_outboxes (c : ChanId) (f : Option Grant → Option Grant) : (s.withSlot c f).outboxes = s.outboxes := rfl
@[simp] theorem State.withSlot_ports (c : ChanId) (f : Option Grant → Option Grant) : (s.withSlot c f).ports = s.ports := rfl
@[simp] theorem State.withSlot_ready (c : ChanId) (f : Option Grant → Option Grant) : (s.withSlot c f).ready = s.ready := rfl
@[simp] theorem State.withSlot_pointer (c : ChanId) (f : Option Grant → Option Grant) : (s.withSlot c f).pointer = s.pointer := rfl
@[simp] theorem State.withSlot_chan (c : ChanId) (f : Option Grant → Option Grant) (d : ChanId) : (s.withSlot c f).chan d = s.chan d := rfl
@[simp] theorem State.withSlot_measure (c : ChanId) (f : Option Grant → Option Grant) (d : ChanId) : (s.withSlot c f).measure d = s.measure d := rfl
@[simp] theorem State.withSlot_session (c : ChanId) (f : Option Grant → Option Grant) (k : HostId) : (s.withSlot c f).session k = s.session k := rfl
@[simp] theorem State.withSlot_tally (c : ChanId) (f : Option Grant → Option Grant) (k : HostId) : (s.withSlot c f).tally k = s.tally k := rfl
@[simp] theorem State.withSlot_outbox (c : ChanId) (f : Option Grant → Option Grant) (k : HostId) : (s.withSlot c f).outbox k = s.outbox k := rfl
@[simp] theorem State.withSlot_port (c : ChanId) (f : Option Grant → Option Grant) (k : HostId) : (s.withSlot c f).port k = s.port k := rfl
@[simp] theorem State.withSlot_settings (c : ChanId) (f : Option Grant → Option Grant) (d : ChanId) : (s.withSlot c f).settings d = s.settings d := rfl
@[simp] theorem State.withSlot_cap (c : ChanId) (f : Option Grant → Option Grant) (k : HostId) : (s.withSlot c f).cap k = s.cap k := rfl
@[simp] theorem State.withSlot_attached (c : ChanId) (f : Option Grant → Option Grant) (k : HostId) : (s.withSlot c f).attached k = s.attached k := rfl

/-! ### withAdmission -/

@[simp] theorem State.withAdmission_pending (f : List ChanId → List ChanId) : (s.withAdmission f).pending = s.pending := rfl
@[simp] theorem State.withAdmission_now (f : List ChanId → List ChanId) : (s.withAdmission f).now = s.now := rfl
@[simp] theorem State.withAdmission_pins (f : List ChanId → List ChanId) : (s.withAdmission f).pins = s.pins := rfl
@[simp] theorem State.withAdmission_budget (f : List ChanId → List ChanId) : (s.withAdmission f).budget = s.budget := rfl
@[simp] theorem State.withAdmission_queue (f : List ChanId → List ChanId) : (s.withAdmission f).queue = s.queue := rfl
@[simp] theorem State.withAdmission_channels (f : List ChanId → List ChanId) : (s.withAdmission f).channels = s.channels := rfl
@[simp] theorem State.withAdmission_meas (f : List ChanId → List ChanId) : (s.withAdmission f).meas = s.meas := rfl
@[simp] theorem State.withAdmission_scan (f : List ChanId → List ChanId) : (s.withAdmission f).scan = s.scan := rfl
@[simp] theorem State.withAdmission_rounds (f : List ChanId → List ChanId) : (s.withAdmission f).rounds = s.rounds := rfl
@[simp] theorem State.withAdmission_tallies (f : List ChanId → List ChanId) : (s.withAdmission f).tallies = s.tallies := rfl
@[simp] theorem State.withAdmission_sessions (f : List ChanId → List ChanId) : (s.withAdmission f).sessions = s.sessions := rfl
@[simp] theorem State.withAdmission_config (f : List ChanId → List ChanId) : (s.withAdmission f).config = s.config := rfl
@[simp] theorem State.withAdmission_proposal (f : List ChanId → List ChanId) : (s.withAdmission f).proposal = s.proposal := rfl
@[simp] theorem State.withAdmission_nextProposal (f : List ChanId → List ChanId) : (s.withAdmission f).nextProposal = s.nextProposal := rfl
@[simp] theorem State.withAdmission_outboxes (f : List ChanId → List ChanId) : (s.withAdmission f).outboxes = s.outboxes := rfl
@[simp] theorem State.withAdmission_ports (f : List ChanId → List ChanId) : (s.withAdmission f).ports = s.ports := rfl
@[simp] theorem State.withAdmission_ready (f : List ChanId → List ChanId) : (s.withAdmission f).ready = s.ready := rfl
@[simp] theorem State.withAdmission_pointer (f : List ChanId → List ChanId) : (s.withAdmission f).pointer = s.pointer := rfl
@[simp] theorem State.withAdmission_chan (f : List ChanId → List ChanId) (d : ChanId) : (s.withAdmission f).chan d = s.chan d := rfl
@[simp] theorem State.withAdmission_measure (f : List ChanId → List ChanId) (d : ChanId) : (s.withAdmission f).measure d = s.measure d := rfl
@[simp] theorem State.withAdmission_session (f : List ChanId → List ChanId) (k : HostId) : (s.withAdmission f).session k = s.session k := rfl
@[simp] theorem State.withAdmission_tally (f : List ChanId → List ChanId) (k : HostId) : (s.withAdmission f).tally k = s.tally k := rfl
@[simp] theorem State.withAdmission_outbox (f : List ChanId → List ChanId) (k : HostId) : (s.withAdmission f).outbox k = s.outbox k := rfl
@[simp] theorem State.withAdmission_port (f : List ChanId → List ChanId) (k : HostId) : (s.withAdmission f).port k = s.port k := rfl
@[simp] theorem State.withAdmission_settings (f : List ChanId → List ChanId) (d : ChanId) : (s.withAdmission f).settings d = s.settings d := rfl
@[simp] theorem State.withAdmission_cap (f : List ChanId → List ChanId) (k : HostId) : (s.withAdmission f).cap k = s.cap k := rfl
@[simp] theorem State.withAdmission_attached (f : List ChanId → List ChanId) (k : HostId) : (s.withAdmission f).attached k = s.attached k := rfl

/-! ### withHostReserved -/

@[simp] theorem State.withHostReserved_pending (h : HostId) (f : Nat → Nat) : (s.withHostReserved h f).pending = s.pending := rfl
@[simp] theorem State.withHostReserved_now (h : HostId) (f : Nat → Nat) : (s.withHostReserved h f).now = s.now := rfl
@[simp] theorem State.withHostReserved_pins (h : HostId) (f : Nat → Nat) : (s.withHostReserved h f).pins = s.pins := rfl
@[simp] theorem State.withHostReserved_budget (h : HostId) (f : Nat → Nat) : (s.withHostReserved h f).budget = s.budget := rfl
@[simp] theorem State.withHostReserved_queue (h : HostId) (f : Nat → Nat) : (s.withHostReserved h f).queue = s.queue := rfl
@[simp] theorem State.withHostReserved_channels (h : HostId) (f : Nat → Nat) : (s.withHostReserved h f).channels = s.channels := rfl
@[simp] theorem State.withHostReserved_meas (h : HostId) (f : Nat → Nat) : (s.withHostReserved h f).meas = s.meas := rfl
@[simp] theorem State.withHostReserved_scan (h : HostId) (f : Nat → Nat) : (s.withHostReserved h f).scan = s.scan := rfl
@[simp] theorem State.withHostReserved_rounds (h : HostId) (f : Nat → Nat) : (s.withHostReserved h f).rounds = s.rounds := rfl
@[simp] theorem State.withHostReserved_tallies (h : HostId) (f : Nat → Nat) : (s.withHostReserved h f).tallies = s.tallies := rfl
@[simp] theorem State.withHostReserved_sessions (h : HostId) (f : Nat → Nat) : (s.withHostReserved h f).sessions = s.sessions := rfl
@[simp] theorem State.withHostReserved_config (h : HostId) (f : Nat → Nat) : (s.withHostReserved h f).config = s.config := rfl
@[simp] theorem State.withHostReserved_proposal (h : HostId) (f : Nat → Nat) : (s.withHostReserved h f).proposal = s.proposal := rfl
@[simp] theorem State.withHostReserved_nextProposal (h : HostId) (f : Nat → Nat) : (s.withHostReserved h f).nextProposal = s.nextProposal := rfl
@[simp] theorem State.withHostReserved_outboxes (h : HostId) (f : Nat → Nat) : (s.withHostReserved h f).outboxes = s.outboxes := rfl
@[simp] theorem State.withHostReserved_ports (h : HostId) (f : Nat → Nat) : (s.withHostReserved h f).ports = s.ports := rfl
@[simp] theorem State.withHostReserved_ready (h : HostId) (f : Nat → Nat) : (s.withHostReserved h f).ready = s.ready := rfl
@[simp] theorem State.withHostReserved_pointer (h : HostId) (f : Nat → Nat) : (s.withHostReserved h f).pointer = s.pointer := rfl
@[simp] theorem State.withHostReserved_chan (h : HostId) (f : Nat → Nat) (d : ChanId) : (s.withHostReserved h f).chan d = s.chan d := rfl
@[simp] theorem State.withHostReserved_measure (h : HostId) (f : Nat → Nat) (d : ChanId) : (s.withHostReserved h f).measure d = s.measure d := rfl
@[simp] theorem State.withHostReserved_session (h : HostId) (f : Nat → Nat) (k : HostId) : (s.withHostReserved h f).session k = s.session k := rfl
@[simp] theorem State.withHostReserved_tally (h : HostId) (f : Nat → Nat) (k : HostId) : (s.withHostReserved h f).tally k = s.tally k := rfl
@[simp] theorem State.withHostReserved_outbox (h : HostId) (f : Nat → Nat) (k : HostId) : (s.withHostReserved h f).outbox k = s.outbox k := rfl
@[simp] theorem State.withHostReserved_port (h : HostId) (f : Nat → Nat) (k : HostId) : (s.withHostReserved h f).port k = s.port k := rfl
@[simp] theorem State.withHostReserved_settings (h : HostId) (f : Nat → Nat) (d : ChanId) : (s.withHostReserved h f).settings d = s.settings d := rfl
@[simp] theorem State.withHostReserved_cap (h : HostId) (f : Nat → Nat) (k : HostId) : (s.withHostReserved h f).cap k = s.cap k := rfl
@[simp] theorem State.withHostReserved_attached (h : HostId) (f : Nat → Nat) (k : HostId) : (s.withHostReserved h f).attached k = s.attached k := rfl

/-! ### withNextNumber -/

@[simp] theorem State.withNextNumber_pending (n : Nat) : (s.withNextNumber n).pending = s.pending := rfl
@[simp] theorem State.withNextNumber_now (n : Nat) : (s.withNextNumber n).now = s.now := rfl
@[simp] theorem State.withNextNumber_pins (n : Nat) : (s.withNextNumber n).pins = s.pins := rfl
@[simp] theorem State.withNextNumber_budget (n : Nat) : (s.withNextNumber n).budget = s.budget := rfl
@[simp] theorem State.withNextNumber_queue (n : Nat) : (s.withNextNumber n).queue = s.queue := rfl
@[simp] theorem State.withNextNumber_channels (n : Nat) : (s.withNextNumber n).channels = s.channels := rfl
@[simp] theorem State.withNextNumber_meas (n : Nat) : (s.withNextNumber n).meas = s.meas := rfl
@[simp] theorem State.withNextNumber_scan (n : Nat) : (s.withNextNumber n).scan = s.scan := rfl
@[simp] theorem State.withNextNumber_rounds (n : Nat) : (s.withNextNumber n).rounds = s.rounds := rfl
@[simp] theorem State.withNextNumber_tallies (n : Nat) : (s.withNextNumber n).tallies = s.tallies := rfl
@[simp] theorem State.withNextNumber_sessions (n : Nat) : (s.withNextNumber n).sessions = s.sessions := rfl
@[simp] theorem State.withNextNumber_config (n : Nat) : (s.withNextNumber n).config = s.config := rfl
@[simp] theorem State.withNextNumber_proposal (n : Nat) : (s.withNextNumber n).proposal = s.proposal := rfl
@[simp] theorem State.withNextNumber_nextProposal (n : Nat) : (s.withNextNumber n).nextProposal = s.nextProposal := rfl
@[simp] theorem State.withNextNumber_outboxes (n : Nat) : (s.withNextNumber n).outboxes = s.outboxes := rfl
@[simp] theorem State.withNextNumber_ports (n : Nat) : (s.withNextNumber n).ports = s.ports := rfl
@[simp] theorem State.withNextNumber_ready (n : Nat) : (s.withNextNumber n).ready = s.ready := rfl
@[simp] theorem State.withNextNumber_pointer (n : Nat) : (s.withNextNumber n).pointer = s.pointer := rfl
@[simp] theorem State.withNextNumber_chan (n : Nat) (d : ChanId) : (s.withNextNumber n).chan d = s.chan d := rfl
@[simp] theorem State.withNextNumber_measure (n : Nat) (d : ChanId) : (s.withNextNumber n).measure d = s.measure d := rfl
@[simp] theorem State.withNextNumber_session (n : Nat) (k : HostId) : (s.withNextNumber n).session k = s.session k := rfl
@[simp] theorem State.withNextNumber_tally (n : Nat) (k : HostId) : (s.withNextNumber n).tally k = s.tally k := rfl
@[simp] theorem State.withNextNumber_outbox (n : Nat) (k : HostId) : (s.withNextNumber n).outbox k = s.outbox k := rfl
@[simp] theorem State.withNextNumber_port (n : Nat) (k : HostId) : (s.withNextNumber n).port k = s.port k := rfl
@[simp] theorem State.withNextNumber_settings (n : Nat) (d : ChanId) : (s.withNextNumber n).settings d = s.settings d := rfl
@[simp] theorem State.withNextNumber_cap (n : Nat) (k : HostId) : (s.withNextNumber n).cap k = s.cap k := rfl
@[simp] theorem State.withNextNumber_attached (n : Nat) (k : HostId) : (s.withNextNumber n).attached k = s.attached k := rfl

/-! ### withSession -/

@[simp] theorem State.withSession_pending (h : HostId) (f : Session → Session) : (s.withSession h f).pending = s.pending := rfl
@[simp] theorem State.withSession_now (h : HostId) (f : Session → Session) : (s.withSession h f).now = s.now := rfl
@[simp] theorem State.withSession_pins (h : HostId) (f : Session → Session) : (s.withSession h f).pins = s.pins := rfl
@[simp] theorem State.withSession_budget (h : HostId) (f : Session → Session) : (s.withSession h f).budget = s.budget := rfl
@[simp] theorem State.withSession_grants (h : HostId) (f : Session → Session) : (s.withSession h f).grants = s.grants := rfl
@[simp] theorem State.withSession_queue (h : HostId) (f : Session → Session) : (s.withSession h f).queue = s.queue := rfl
@[simp] theorem State.withSession_channels (h : HostId) (f : Session → Session) : (s.withSession h f).channels = s.channels := rfl
@[simp] theorem State.withSession_meas (h : HostId) (f : Session → Session) : (s.withSession h f).meas = s.meas := rfl
@[simp] theorem State.withSession_scan (h : HostId) (f : Session → Session) : (s.withSession h f).scan = s.scan := rfl
@[simp] theorem State.withSession_rounds (h : HostId) (f : Session → Session) : (s.withSession h f).rounds = s.rounds := rfl
@[simp] theorem State.withSession_tallies (h : HostId) (f : Session → Session) : (s.withSession h f).tallies = s.tallies := rfl
@[simp] theorem State.withSession_config (h : HostId) (f : Session → Session) : (s.withSession h f).config = s.config := rfl
@[simp] theorem State.withSession_proposal (h : HostId) (f : Session → Session) : (s.withSession h f).proposal = s.proposal := rfl
@[simp] theorem State.withSession_nextProposal (h : HostId) (f : Session → Session) : (s.withSession h f).nextProposal = s.nextProposal := rfl
@[simp] theorem State.withSession_outboxes (h : HostId) (f : Session → Session) : (s.withSession h f).outboxes = s.outboxes := rfl
@[simp] theorem State.withSession_ports (h : HostId) (f : Session → Session) : (s.withSession h f).ports = s.ports := rfl
@[simp] theorem State.withSession_ready (h : HostId) (f : Session → Session) : (s.withSession h f).ready = s.ready := rfl
@[simp] theorem State.withSession_pointer (h : HostId) (f : Session → Session) : (s.withSession h f).pointer = s.pointer := rfl
@[simp] theorem State.withSession_chan (h : HostId) (f : Session → Session) (d : ChanId) : (s.withSession h f).chan d = s.chan d := rfl
@[simp] theorem State.withSession_measure (h : HostId) (f : Session → Session) (d : ChanId) : (s.withSession h f).measure d = s.measure d := rfl
@[simp] theorem State.withSession_slot (h : HostId) (f : Session → Session) (d : ChanId) : (s.withSession h f).slot d = s.slot d := rfl
@[simp] theorem State.withSession_tally (h : HostId) (f : Session → Session) (k : HostId) : (s.withSession h f).tally k = s.tally k := rfl
@[simp] theorem State.withSession_outbox (h : HostId) (f : Session → Session) (k : HostId) : (s.withSession h f).outbox k = s.outbox k := rfl
@[simp] theorem State.withSession_port (h : HostId) (f : Session → Session) (k : HostId) : (s.withSession h f).port k = s.port k := rfl
@[simp] theorem State.withSession_settings (h : HostId) (f : Session → Session) (d : ChanId) : (s.withSession h f).settings d = s.settings d := rfl
@[simp] theorem State.withSession_cap (h : HostId) (f : Session → Session) (k : HostId) : (s.withSession h f).cap k = s.cap k := rfl
@[simp] theorem State.withSession_hostReserved (h : HostId) (f : Session → Session) (k : HostId) : (s.withSession h f).hostReserved k = s.hostReserved k := rfl

/-! ### withTally -/

@[simp] theorem State.withTally_pending (h : HostId) (f : Tally → Tally) : (s.withTally h f).pending = s.pending := rfl
@[simp] theorem State.withTally_now (h : HostId) (f : Tally → Tally) : (s.withTally h f).now = s.now := rfl
@[simp] theorem State.withTally_pins (h : HostId) (f : Tally → Tally) : (s.withTally h f).pins = s.pins := rfl
@[simp] theorem State.withTally_budget (h : HostId) (f : Tally → Tally) : (s.withTally h f).budget = s.budget := rfl
@[simp] theorem State.withTally_grants (h : HostId) (f : Tally → Tally) : (s.withTally h f).grants = s.grants := rfl
@[simp] theorem State.withTally_queue (h : HostId) (f : Tally → Tally) : (s.withTally h f).queue = s.queue := rfl
@[simp] theorem State.withTally_channels (h : HostId) (f : Tally → Tally) : (s.withTally h f).channels = s.channels := rfl
@[simp] theorem State.withTally_meas (h : HostId) (f : Tally → Tally) : (s.withTally h f).meas = s.meas := rfl
@[simp] theorem State.withTally_scan (h : HostId) (f : Tally → Tally) : (s.withTally h f).scan = s.scan := rfl
@[simp] theorem State.withTally_rounds (h : HostId) (f : Tally → Tally) : (s.withTally h f).rounds = s.rounds := rfl
@[simp] theorem State.withTally_sessions (h : HostId) (f : Tally → Tally) : (s.withTally h f).sessions = s.sessions := rfl
@[simp] theorem State.withTally_config (h : HostId) (f : Tally → Tally) : (s.withTally h f).config = s.config := rfl
@[simp] theorem State.withTally_proposal (h : HostId) (f : Tally → Tally) : (s.withTally h f).proposal = s.proposal := rfl
@[simp] theorem State.withTally_nextProposal (h : HostId) (f : Tally → Tally) : (s.withTally h f).nextProposal = s.nextProposal := rfl
@[simp] theorem State.withTally_outboxes (h : HostId) (f : Tally → Tally) : (s.withTally h f).outboxes = s.outboxes := rfl
@[simp] theorem State.withTally_ports (h : HostId) (f : Tally → Tally) : (s.withTally h f).ports = s.ports := rfl
@[simp] theorem State.withTally_ready (h : HostId) (f : Tally → Tally) : (s.withTally h f).ready = s.ready := rfl
@[simp] theorem State.withTally_pointer (h : HostId) (f : Tally → Tally) : (s.withTally h f).pointer = s.pointer := rfl
@[simp] theorem State.withTally_chan (h : HostId) (f : Tally → Tally) (d : ChanId) : (s.withTally h f).chan d = s.chan d := rfl
@[simp] theorem State.withTally_measure (h : HostId) (f : Tally → Tally) (d : ChanId) : (s.withTally h f).measure d = s.measure d := rfl
@[simp] theorem State.withTally_slot (h : HostId) (f : Tally → Tally) (d : ChanId) : (s.withTally h f).slot d = s.slot d := rfl
@[simp] theorem State.withTally_session (h : HostId) (f : Tally → Tally) (k : HostId) : (s.withTally h f).session k = s.session k := rfl
@[simp] theorem State.withTally_outbox (h : HostId) (f : Tally → Tally) (k : HostId) : (s.withTally h f).outbox k = s.outbox k := rfl
@[simp] theorem State.withTally_port (h : HostId) (f : Tally → Tally) (k : HostId) : (s.withTally h f).port k = s.port k := rfl
@[simp] theorem State.withTally_settings (h : HostId) (f : Tally → Tally) (d : ChanId) : (s.withTally h f).settings d = s.settings d := rfl
@[simp] theorem State.withTally_cap (h : HostId) (f : Tally → Tally) (k : HostId) : (s.withTally h f).cap k = s.cap k := rfl
@[simp] theorem State.withTally_hostReserved (h : HostId) (f : Tally → Tally) (k : HostId) : (s.withTally h f).hostReserved k = s.hostReserved k := rfl
@[simp] theorem State.withTally_attached (h : HostId) (f : Tally → Tally) (k : HostId) : (s.withTally h f).attached k = s.attached k := rfl

/-! ### withOutbox -/

@[simp] theorem State.withOutbox_pending (h : HostId) (f : List OutEntry → List OutEntry) : (s.withOutbox h f).pending = s.pending := rfl
@[simp] theorem State.withOutbox_now (h : HostId) (f : List OutEntry → List OutEntry) : (s.withOutbox h f).now = s.now := rfl
@[simp] theorem State.withOutbox_pins (h : HostId) (f : List OutEntry → List OutEntry) : (s.withOutbox h f).pins = s.pins := rfl
@[simp] theorem State.withOutbox_budget (h : HostId) (f : List OutEntry → List OutEntry) : (s.withOutbox h f).budget = s.budget := rfl
@[simp] theorem State.withOutbox_grants (h : HostId) (f : List OutEntry → List OutEntry) : (s.withOutbox h f).grants = s.grants := rfl
@[simp] theorem State.withOutbox_queue (h : HostId) (f : List OutEntry → List OutEntry) : (s.withOutbox h f).queue = s.queue := rfl
@[simp] theorem State.withOutbox_channels (h : HostId) (f : List OutEntry → List OutEntry) : (s.withOutbox h f).channels = s.channels := rfl
@[simp] theorem State.withOutbox_meas (h : HostId) (f : List OutEntry → List OutEntry) : (s.withOutbox h f).meas = s.meas := rfl
@[simp] theorem State.withOutbox_scan (h : HostId) (f : List OutEntry → List OutEntry) : (s.withOutbox h f).scan = s.scan := rfl
@[simp] theorem State.withOutbox_rounds (h : HostId) (f : List OutEntry → List OutEntry) : (s.withOutbox h f).rounds = s.rounds := rfl
@[simp] theorem State.withOutbox_tallies (h : HostId) (f : List OutEntry → List OutEntry) : (s.withOutbox h f).tallies = s.tallies := rfl
@[simp] theorem State.withOutbox_sessions (h : HostId) (f : List OutEntry → List OutEntry) : (s.withOutbox h f).sessions = s.sessions := rfl
@[simp] theorem State.withOutbox_config (h : HostId) (f : List OutEntry → List OutEntry) : (s.withOutbox h f).config = s.config := rfl
@[simp] theorem State.withOutbox_proposal (h : HostId) (f : List OutEntry → List OutEntry) : (s.withOutbox h f).proposal = s.proposal := rfl
@[simp] theorem State.withOutbox_nextProposal (h : HostId) (f : List OutEntry → List OutEntry) : (s.withOutbox h f).nextProposal = s.nextProposal := rfl
@[simp] theorem State.withOutbox_ports (h : HostId) (f : List OutEntry → List OutEntry) : (s.withOutbox h f).ports = s.ports := rfl
@[simp] theorem State.withOutbox_ready (h : HostId) (f : List OutEntry → List OutEntry) : (s.withOutbox h f).ready = s.ready := rfl
@[simp] theorem State.withOutbox_pointer (h : HostId) (f : List OutEntry → List OutEntry) : (s.withOutbox h f).pointer = s.pointer := rfl
@[simp] theorem State.withOutbox_chan (h : HostId) (f : List OutEntry → List OutEntry) (d : ChanId) : (s.withOutbox h f).chan d = s.chan d := rfl
@[simp] theorem State.withOutbox_measure (h : HostId) (f : List OutEntry → List OutEntry) (d : ChanId) : (s.withOutbox h f).measure d = s.measure d := rfl
@[simp] theorem State.withOutbox_slot (h : HostId) (f : List OutEntry → List OutEntry) (d : ChanId) : (s.withOutbox h f).slot d = s.slot d := rfl
@[simp] theorem State.withOutbox_session (h : HostId) (f : List OutEntry → List OutEntry) (k : HostId) : (s.withOutbox h f).session k = s.session k := rfl
@[simp] theorem State.withOutbox_tally (h : HostId) (f : List OutEntry → List OutEntry) (k : HostId) : (s.withOutbox h f).tally k = s.tally k := rfl
@[simp] theorem State.withOutbox_port (h : HostId) (f : List OutEntry → List OutEntry) (k : HostId) : (s.withOutbox h f).port k = s.port k := rfl
@[simp] theorem State.withOutbox_settings (h : HostId) (f : List OutEntry → List OutEntry) (d : ChanId) : (s.withOutbox h f).settings d = s.settings d := rfl
@[simp] theorem State.withOutbox_cap (h : HostId) (f : List OutEntry → List OutEntry) (k : HostId) : (s.withOutbox h f).cap k = s.cap k := rfl
@[simp] theorem State.withOutbox_hostReserved (h : HostId) (f : List OutEntry → List OutEntry) (k : HostId) : (s.withOutbox h f).hostReserved k = s.hostReserved k := rfl
@[simp] theorem State.withOutbox_attached (h : HostId) (f : List OutEntry → List OutEntry) (k : HostId) : (s.withOutbox h f).attached k = s.attached k := rfl

/-! ### withPort -/

@[simp] theorem State.withPort_pending (h : HostId) (f : Port → Port) : (s.withPort h f).pending = s.pending := rfl
@[simp] theorem State.withPort_now (h : HostId) (f : Port → Port) : (s.withPort h f).now = s.now := rfl
@[simp] theorem State.withPort_pins (h : HostId) (f : Port → Port) : (s.withPort h f).pins = s.pins := rfl
@[simp] theorem State.withPort_budget (h : HostId) (f : Port → Port) : (s.withPort h f).budget = s.budget := rfl
@[simp] theorem State.withPort_grants (h : HostId) (f : Port → Port) : (s.withPort h f).grants = s.grants := rfl
@[simp] theorem State.withPort_queue (h : HostId) (f : Port → Port) : (s.withPort h f).queue = s.queue := rfl
@[simp] theorem State.withPort_channels (h : HostId) (f : Port → Port) : (s.withPort h f).channels = s.channels := rfl
@[simp] theorem State.withPort_meas (h : HostId) (f : Port → Port) : (s.withPort h f).meas = s.meas := rfl
@[simp] theorem State.withPort_scan (h : HostId) (f : Port → Port) : (s.withPort h f).scan = s.scan := rfl
@[simp] theorem State.withPort_rounds (h : HostId) (f : Port → Port) : (s.withPort h f).rounds = s.rounds := rfl
@[simp] theorem State.withPort_tallies (h : HostId) (f : Port → Port) : (s.withPort h f).tallies = s.tallies := rfl
@[simp] theorem Port.sparing_result (p : Port) : p.sparing.result = p.result := rfl
@[simp] theorem Port.sparing_buffer (p : Port) : p.sparing.buffer = p.buffer := rfl
@[simp] theorem Port.sparing_select (p : Port) :
    p.sparing.select = p.select.map fun x => { x with spares := true } := rfl
@[simp] theorem Port.sparing_fix (p : Port) : p.sparing.fix = p.fix := rfl
@[simp] theorem Port.sparing_sdo (p : Port) : p.sparing.sdo = p.sdo := rfl
@[simp] theorem State.withPort_sessions (h : HostId) (f : Port → Port) : (s.withPort h f).sessions = s.sessions := rfl
@[simp] theorem State.withPort_config (h : HostId) (f : Port → Port) : (s.withPort h f).config = s.config := rfl
@[simp] theorem State.withPort_proposal (h : HostId) (f : Port → Port) : (s.withPort h f).proposal = s.proposal := rfl
@[simp] theorem State.withPort_nextProposal (h : HostId) (f : Port → Port) : (s.withPort h f).nextProposal = s.nextProposal := rfl
@[simp] theorem State.withPort_outboxes (h : HostId) (f : Port → Port) : (s.withPort h f).outboxes = s.outboxes := rfl
@[simp] theorem State.withPort_ready (h : HostId) (f : Port → Port) : (s.withPort h f).ready = s.ready := rfl
@[simp] theorem State.withPort_pointer (h : HostId) (f : Port → Port) : (s.withPort h f).pointer = s.pointer := rfl
@[simp] theorem State.withPort_chan (h : HostId) (f : Port → Port) (d : ChanId) : (s.withPort h f).chan d = s.chan d := rfl
@[simp] theorem State.withPort_measure (h : HostId) (f : Port → Port) (d : ChanId) : (s.withPort h f).measure d = s.measure d := rfl
@[simp] theorem State.withPort_slot (h : HostId) (f : Port → Port) (d : ChanId) : (s.withPort h f).slot d = s.slot d := rfl
@[simp] theorem State.withPort_session (h : HostId) (f : Port → Port) (k : HostId) : (s.withPort h f).session k = s.session k := rfl
@[simp] theorem State.withPort_tally (h : HostId) (f : Port → Port) (k : HostId) : (s.withPort h f).tally k = s.tally k := rfl
@[simp] theorem State.withPort_outbox (h : HostId) (f : Port → Port) (k : HostId) : (s.withPort h f).outbox k = s.outbox k := rfl
@[simp] theorem State.withPort_settings (h : HostId) (f : Port → Port) (d : ChanId) : (s.withPort h f).settings d = s.settings d := rfl
@[simp] theorem State.withPort_cap (h : HostId) (f : Port → Port) (k : HostId) : (s.withPort h f).cap k = s.cap k := rfl
@[simp] theorem State.withPort_hostReserved (h : HostId) (f : Port → Port) (k : HostId) : (s.withPort h f).hostReserved k = s.hostReserved k := rfl
@[simp] theorem State.withPort_attached (h : HostId) (f : Port → Port) (k : HostId) : (s.withPort h f).attached k = s.attached k := rfl

/-! ### withReserved -/

@[simp] theorem State.withReserved_pending (f : Nat → Nat) : (s.withReserved f).pending = s.pending := rfl
@[simp] theorem State.withReserved_now (f : Nat → Nat) : (s.withReserved f).now = s.now := rfl
@[simp] theorem State.withReserved_pins (f : Nat → Nat) : (s.withReserved f).pins = s.pins := rfl
@[simp] theorem State.withReserved_grants (f : Nat → Nat) : (s.withReserved f).grants = s.grants := rfl
@[simp] theorem State.withReserved_queue (f : Nat → Nat) : (s.withReserved f).queue = s.queue := rfl
@[simp] theorem State.withReserved_channels (f : Nat → Nat) : (s.withReserved f).channels = s.channels := rfl
@[simp] theorem State.withReserved_meas (f : Nat → Nat) : (s.withReserved f).meas = s.meas := rfl
@[simp] theorem State.withReserved_scan (f : Nat → Nat) : (s.withReserved f).scan = s.scan := rfl
@[simp] theorem State.withReserved_rounds (f : Nat → Nat) : (s.withReserved f).rounds = s.rounds := rfl
@[simp] theorem State.withReserved_tallies (f : Nat → Nat) : (s.withReserved f).tallies = s.tallies := rfl
@[simp] theorem State.withReserved_sessions (f : Nat → Nat) : (s.withReserved f).sessions = s.sessions := rfl
@[simp] theorem State.withReserved_config (f : Nat → Nat) : (s.withReserved f).config = s.config := rfl
@[simp] theorem State.withReserved_proposal (f : Nat → Nat) : (s.withReserved f).proposal = s.proposal := rfl
@[simp] theorem State.withReserved_nextProposal (f : Nat → Nat) : (s.withReserved f).nextProposal = s.nextProposal := rfl
@[simp] theorem State.withReserved_outboxes (f : Nat → Nat) : (s.withReserved f).outboxes = s.outboxes := rfl
@[simp] theorem State.withReserved_ports (f : Nat → Nat) : (s.withReserved f).ports = s.ports := rfl
@[simp] theorem State.withReserved_ready (f : Nat → Nat) : (s.withReserved f).ready = s.ready := rfl
@[simp] theorem State.withReserved_pointer (f : Nat → Nat) : (s.withReserved f).pointer = s.pointer := rfl
@[simp] theorem State.withReserved_chan (f : Nat → Nat) (d : ChanId) : (s.withReserved f).chan d = s.chan d := rfl
@[simp] theorem State.withReserved_measure (f : Nat → Nat) (d : ChanId) : (s.withReserved f).measure d = s.measure d := rfl
@[simp] theorem State.withReserved_slot (f : Nat → Nat) (d : ChanId) : (s.withReserved f).slot d = s.slot d := rfl
@[simp] theorem State.withReserved_session (f : Nat → Nat) (k : HostId) : (s.withReserved f).session k = s.session k := rfl
@[simp] theorem State.withReserved_tally (f : Nat → Nat) (k : HostId) : (s.withReserved f).tally k = s.tally k := rfl
@[simp] theorem State.withReserved_outbox (f : Nat → Nat) (k : HostId) : (s.withReserved f).outbox k = s.outbox k := rfl
@[simp] theorem State.withReserved_port (f : Nat → Nat) (k : HostId) : (s.withReserved f).port k = s.port k := rfl
@[simp] theorem State.withReserved_settings (f : Nat → Nat) (d : ChanId) : (s.withReserved f).settings d = s.settings d := rfl
@[simp] theorem State.withReserved_cap (f : Nat → Nat) (k : HostId) : (s.withReserved f).cap k = s.cap k := rfl
@[simp] theorem State.withReserved_hostReserved (f : Nat → Nat) (k : HostId) : (s.withReserved f).hostReserved k = s.hostReserved k := rfl
@[simp] theorem State.withReserved_attached (f : Nat → Nat) (k : HostId) : (s.withReserved f).attached k = s.attached k := rfl

/-! ### withReleasing -/

@[simp] theorem State.withReleasing_pending (f : Nat → Nat) : (s.withReleasing f).pending = s.pending := rfl
@[simp] theorem State.withReleasing_now (f : Nat → Nat) : (s.withReleasing f).now = s.now := rfl
@[simp] theorem State.withReleasing_pins (f : Nat → Nat) : (s.withReleasing f).pins = s.pins := rfl
@[simp] theorem State.withReleasing_grants (f : Nat → Nat) : (s.withReleasing f).grants = s.grants := rfl
@[simp] theorem State.withReleasing_queue (f : Nat → Nat) : (s.withReleasing f).queue = s.queue := rfl
@[simp] theorem State.withReleasing_channels (f : Nat → Nat) : (s.withReleasing f).channels = s.channels := rfl
@[simp] theorem State.withReleasing_meas (f : Nat → Nat) : (s.withReleasing f).meas = s.meas := rfl
@[simp] theorem State.withReleasing_scan (f : Nat → Nat) : (s.withReleasing f).scan = s.scan := rfl
@[simp] theorem State.withReleasing_rounds (f : Nat → Nat) : (s.withReleasing f).rounds = s.rounds := rfl
@[simp] theorem State.withReleasing_tallies (f : Nat → Nat) : (s.withReleasing f).tallies = s.tallies := rfl
@[simp] theorem State.withReleasing_sessions (f : Nat → Nat) : (s.withReleasing f).sessions = s.sessions := rfl
@[simp] theorem State.withReleasing_config (f : Nat → Nat) : (s.withReleasing f).config = s.config := rfl
@[simp] theorem State.withReleasing_proposal (f : Nat → Nat) : (s.withReleasing f).proposal = s.proposal := rfl
@[simp] theorem State.withReleasing_nextProposal (f : Nat → Nat) : (s.withReleasing f).nextProposal = s.nextProposal := rfl
@[simp] theorem State.withReleasing_outboxes (f : Nat → Nat) : (s.withReleasing f).outboxes = s.outboxes := rfl
@[simp] theorem State.withReleasing_ports (f : Nat → Nat) : (s.withReleasing f).ports = s.ports := rfl
@[simp] theorem State.withReleasing_ready (f : Nat → Nat) : (s.withReleasing f).ready = s.ready := rfl
@[simp] theorem State.withReleasing_pointer (f : Nat → Nat) : (s.withReleasing f).pointer = s.pointer := rfl
@[simp] theorem State.withReleasing_chan (f : Nat → Nat) (d : ChanId) : (s.withReleasing f).chan d = s.chan d := rfl
@[simp] theorem State.withReleasing_measure (f : Nat → Nat) (d : ChanId) : (s.withReleasing f).measure d = s.measure d := rfl
@[simp] theorem State.withReleasing_slot (f : Nat → Nat) (d : ChanId) : (s.withReleasing f).slot d = s.slot d := rfl
@[simp] theorem State.withReleasing_session (f : Nat → Nat) (k : HostId) : (s.withReleasing f).session k = s.session k := rfl
@[simp] theorem State.withReleasing_tally (f : Nat → Nat) (k : HostId) : (s.withReleasing f).tally k = s.tally k := rfl
@[simp] theorem State.withReleasing_outbox (f : Nat → Nat) (k : HostId) : (s.withReleasing f).outbox k = s.outbox k := rfl
@[simp] theorem State.withReleasing_port (f : Nat → Nat) (k : HostId) : (s.withReleasing f).port k = s.port k := rfl
@[simp] theorem State.withReleasing_settings (f : Nat → Nat) (d : ChanId) : (s.withReleasing f).settings d = s.settings d := rfl
@[simp] theorem State.withReleasing_cap (f : Nat → Nat) (k : HostId) : (s.withReleasing f).cap k = s.cap k := rfl
@[simp] theorem State.withReleasing_hostReserved (f : Nat → Nat) (k : HostId) : (s.withReleasing f).hostReserved k = s.hostReserved k := rfl
@[simp] theorem State.withReleasing_attached (f : Nat → Nat) (k : HostId) : (s.withReleasing f).attached k = s.attached k := rfl

/-! ### withTotal -/

@[simp] theorem State.withTotal_pending (n : Nat) : (s.withTotal n).pending = s.pending := rfl
@[simp] theorem State.withTotal_now (n : Nat) : (s.withTotal n).now = s.now := rfl
@[simp] theorem State.withTotal_pins (n : Nat) : (s.withTotal n).pins = s.pins := rfl
@[simp] theorem State.withTotal_grants (n : Nat) : (s.withTotal n).grants = s.grants := rfl
@[simp] theorem State.withTotal_queue (n : Nat) : (s.withTotal n).queue = s.queue := rfl
@[simp] theorem State.withTotal_channels (n : Nat) : (s.withTotal n).channels = s.channels := rfl
@[simp] theorem State.withTotal_meas (n : Nat) : (s.withTotal n).meas = s.meas := rfl
@[simp] theorem State.withTotal_scan (n : Nat) : (s.withTotal n).scan = s.scan := rfl
@[simp] theorem State.withTotal_rounds (n : Nat) : (s.withTotal n).rounds = s.rounds := rfl
@[simp] theorem State.withTotal_tallies (n : Nat) : (s.withTotal n).tallies = s.tallies := rfl
@[simp] theorem State.withTotal_sessions (n : Nat) : (s.withTotal n).sessions = s.sessions := rfl
@[simp] theorem State.withTotal_config (n : Nat) : (s.withTotal n).config = s.config := rfl
@[simp] theorem State.withTotal_proposal (n : Nat) : (s.withTotal n).proposal = s.proposal := rfl
@[simp] theorem State.withTotal_nextProposal (n : Nat) : (s.withTotal n).nextProposal = s.nextProposal := rfl
@[simp] theorem State.withTotal_outboxes (n : Nat) : (s.withTotal n).outboxes = s.outboxes := rfl
@[simp] theorem State.withTotal_ports (n : Nat) : (s.withTotal n).ports = s.ports := rfl
@[simp] theorem State.withTotal_ready (n : Nat) : (s.withTotal n).ready = s.ready := rfl
@[simp] theorem State.withTotal_pointer (n : Nat) : (s.withTotal n).pointer = s.pointer := rfl
@[simp] theorem State.withTotal_chan (n : Nat) (d : ChanId) : (s.withTotal n).chan d = s.chan d := rfl
@[simp] theorem State.withTotal_measure (n : Nat) (d : ChanId) : (s.withTotal n).measure d = s.measure d := rfl
@[simp] theorem State.withTotal_slot (n : Nat) (d : ChanId) : (s.withTotal n).slot d = s.slot d := rfl
@[simp] theorem State.withTotal_session (n : Nat) (k : HostId) : (s.withTotal n).session k = s.session k := rfl
@[simp] theorem State.withTotal_tally (n : Nat) (k : HostId) : (s.withTotal n).tally k = s.tally k := rfl
@[simp] theorem State.withTotal_outbox (n : Nat) (k : HostId) : (s.withTotal n).outbox k = s.outbox k := rfl
@[simp] theorem State.withTotal_port (n : Nat) (k : HostId) : (s.withTotal n).port k = s.port k := rfl
@[simp] theorem State.withTotal_settings (n : Nat) (d : ChanId) : (s.withTotal n).settings d = s.settings d := rfl
@[simp] theorem State.withTotal_cap (n : Nat) (k : HostId) : (s.withTotal n).cap k = s.cap k := rfl
@[simp] theorem State.withTotal_hostReserved (n : Nat) (k : HostId) : (s.withTotal n).hostReserved k = s.hostReserved k := rfl
@[simp] theorem State.withTotal_attached (n : Nat) (k : HostId) : (s.withTotal n).attached k = s.attached k := rfl

/-! ### readStraps -/

@[simp] theorem State.readStraps_pending (v : BitVec 2) : (s.readStraps v).pending = s.pending := rfl
@[simp] theorem State.readStraps_now (v : BitVec 2) : (s.readStraps v).now = s.now := rfl
@[simp] theorem State.readStraps_budget (v : BitVec 2) : (s.readStraps v).budget = s.budget := rfl
@[simp] theorem State.readStraps_grants (v : BitVec 2) : (s.readStraps v).grants = s.grants := rfl
@[simp] theorem State.readStraps_queue (v : BitVec 2) : (s.readStraps v).queue = s.queue := rfl
@[simp] theorem State.readStraps_channels (v : BitVec 2) : (s.readStraps v).channels = s.channels := rfl
@[simp] theorem State.readStraps_meas (v : BitVec 2) : (s.readStraps v).meas = s.meas := rfl
@[simp] theorem State.readStraps_scan (v : BitVec 2) : (s.readStraps v).scan = s.scan := rfl
@[simp] theorem State.readStraps_rounds (v : BitVec 2) : (s.readStraps v).rounds = s.rounds := rfl
@[simp] theorem State.readStraps_tallies (v : BitVec 2) : (s.readStraps v).tallies = s.tallies := rfl
@[simp] theorem State.readStraps_sessions (v : BitVec 2) : (s.readStraps v).sessions = s.sessions := rfl
@[simp] theorem State.readStraps_config (v : BitVec 2) : (s.readStraps v).config = s.config := rfl
@[simp] theorem State.readStraps_proposal (v : BitVec 2) : (s.readStraps v).proposal = s.proposal := rfl
@[simp] theorem State.readStraps_nextProposal (v : BitVec 2) : (s.readStraps v).nextProposal = s.nextProposal := rfl
@[simp] theorem State.readStraps_outboxes (v : BitVec 2) : (s.readStraps v).outboxes = s.outboxes := rfl
@[simp] theorem State.readStraps_ports (v : BitVec 2) : (s.readStraps v).ports = s.ports := rfl
@[simp] theorem State.readStraps_ready (v : BitVec 2) : (s.readStraps v).ready = s.ready := rfl
@[simp] theorem State.readStraps_pointer (v : BitVec 2) : (s.readStraps v).pointer = s.pointer := rfl
@[simp] theorem State.readStraps_chan (v : BitVec 2) (d : ChanId) : (s.readStraps v).chan d = s.chan d := rfl
@[simp] theorem State.readStraps_measure (v : BitVec 2) (d : ChanId) : (s.readStraps v).measure d = s.measure d := rfl
@[simp] theorem State.readStraps_slot (v : BitVec 2) (d : ChanId) : (s.readStraps v).slot d = s.slot d := rfl
@[simp] theorem State.readStraps_session (v : BitVec 2) (k : HostId) : (s.readStraps v).session k = s.session k := rfl
@[simp] theorem State.readStraps_tally (v : BitVec 2) (k : HostId) : (s.readStraps v).tally k = s.tally k := rfl
@[simp] theorem State.readStraps_outbox (v : BitVec 2) (k : HostId) : (s.readStraps v).outbox k = s.outbox k := rfl
@[simp] theorem State.readStraps_port (v : BitVec 2) (k : HostId) : (s.readStraps v).port k = s.port k := rfl
@[simp] theorem State.readStraps_settings (v : BitVec 2) (d : ChanId) : (s.readStraps v).settings d = s.settings d := rfl
@[simp] theorem State.readStraps_cap (v : BitVec 2) (k : HostId) : (s.readStraps v).cap k = s.cap k := rfl
@[simp] theorem State.readStraps_hostReserved (v : BitVec 2) (k : HostId) : (s.readStraps v).hostReserved k = s.hostReserved k := rfl
@[simp] theorem State.readStraps_attached (v : BitVec 2) (k : HostId) : (s.readStraps v).attached k = s.attached k := rfl

/-! ### withFilter -/

@[simp] theorem State.withFilter_pending (b : Bool) (o : Option Nat) : (s.withFilter b o).pending = s.pending := rfl
@[simp] theorem State.withFilter_now (b : Bool) (o : Option Nat) : (s.withFilter b o).now = s.now := rfl
@[simp] theorem State.withFilter_pins (b : Bool) (o : Option Nat) : (s.withFilter b o).pins = s.pins := rfl
@[simp] theorem State.withFilter_grants (b : Bool) (o : Option Nat) : (s.withFilter b o).grants = s.grants := rfl
@[simp] theorem State.withFilter_queue (b : Bool) (o : Option Nat) : (s.withFilter b o).queue = s.queue := rfl
@[simp] theorem State.withFilter_channels (b : Bool) (o : Option Nat) : (s.withFilter b o).channels = s.channels := rfl
@[simp] theorem State.withFilter_meas (b : Bool) (o : Option Nat) : (s.withFilter b o).meas = s.meas := rfl
@[simp] theorem State.withFilter_scan (b : Bool) (o : Option Nat) : (s.withFilter b o).scan = s.scan := rfl
@[simp] theorem State.withFilter_rounds (b : Bool) (o : Option Nat) : (s.withFilter b o).rounds = s.rounds := rfl
@[simp] theorem State.withFilter_tallies (b : Bool) (o : Option Nat) : (s.withFilter b o).tallies = s.tallies := rfl
@[simp] theorem State.withFilter_sessions (b : Bool) (o : Option Nat) : (s.withFilter b o).sessions = s.sessions := rfl
@[simp] theorem State.withFilter_config (b : Bool) (o : Option Nat) : (s.withFilter b o).config = s.config := rfl
@[simp] theorem State.withFilter_proposal (b : Bool) (o : Option Nat) : (s.withFilter b o).proposal = s.proposal := rfl
@[simp] theorem State.withFilter_nextProposal (b : Bool) (o : Option Nat) : (s.withFilter b o).nextProposal = s.nextProposal := rfl
@[simp] theorem State.withFilter_outboxes (b : Bool) (o : Option Nat) : (s.withFilter b o).outboxes = s.outboxes := rfl
@[simp] theorem State.withFilter_ports (b : Bool) (o : Option Nat) : (s.withFilter b o).ports = s.ports := rfl
@[simp] theorem State.withFilter_ready (b : Bool) (o : Option Nat) : (s.withFilter b o).ready = s.ready := rfl
@[simp] theorem State.withFilter_pointer (b : Bool) (o : Option Nat) : (s.withFilter b o).pointer = s.pointer := rfl
@[simp] theorem State.withFilter_chan (b : Bool) (o : Option Nat) (d : ChanId) : (s.withFilter b o).chan d = s.chan d := rfl
@[simp] theorem State.withFilter_measure (b : Bool) (o : Option Nat) (d : ChanId) : (s.withFilter b o).measure d = s.measure d := rfl
@[simp] theorem State.withFilter_slot (b : Bool) (o : Option Nat) (d : ChanId) : (s.withFilter b o).slot d = s.slot d := rfl
@[simp] theorem State.withFilter_session (b : Bool) (o : Option Nat) (k : HostId) : (s.withFilter b o).session k = s.session k := rfl
@[simp] theorem State.withFilter_tally (b : Bool) (o : Option Nat) (k : HostId) : (s.withFilter b o).tally k = s.tally k := rfl
@[simp] theorem State.withFilter_outbox (b : Bool) (o : Option Nat) (k : HostId) : (s.withFilter b o).outbox k = s.outbox k := rfl
@[simp] theorem State.withFilter_port (b : Bool) (o : Option Nat) (k : HostId) : (s.withFilter b o).port k = s.port k := rfl
@[simp] theorem State.withFilter_settings (b : Bool) (o : Option Nat) (d : ChanId) : (s.withFilter b o).settings d = s.settings d := rfl
@[simp] theorem State.withFilter_cap (b : Bool) (o : Option Nat) (k : HostId) : (s.withFilter b o).cap k = s.cap k := rfl
@[simp] theorem State.withFilter_hostReserved (b : Bool) (o : Option Nat) (k : HostId) : (s.withFilter b o).hostReserved k = s.hostReserved k := rfl
@[simp] theorem State.withFilter_attached (b : Bool) (o : Option Nat) (k : HostId) : (s.withFilter b o).attached k = s.attached k := rfl

/-! ### withConfig -/

@[simp] theorem State.withConfig_pending (f : Configuration → Configuration) : (s.withConfig f).pending = s.pending := rfl
@[simp] theorem State.withConfig_now (f : Configuration → Configuration) : (s.withConfig f).now = s.now := rfl
@[simp] theorem State.withConfig_pins (f : Configuration → Configuration) : (s.withConfig f).pins = s.pins := rfl
@[simp] theorem State.withConfig_budget (f : Configuration → Configuration) : (s.withConfig f).budget = s.budget := rfl
@[simp] theorem State.withConfig_grants (f : Configuration → Configuration) : (s.withConfig f).grants = s.grants := rfl
@[simp] theorem State.withConfig_queue (f : Configuration → Configuration) : (s.withConfig f).queue = s.queue := rfl
@[simp] theorem State.withConfig_channels (f : Configuration → Configuration) : (s.withConfig f).channels = s.channels := rfl
@[simp] theorem State.withConfig_meas (f : Configuration → Configuration) : (s.withConfig f).meas = s.meas := rfl
@[simp] theorem State.withConfig_scan (f : Configuration → Configuration) : (s.withConfig f).scan = s.scan := rfl
@[simp] theorem State.withConfig_rounds (f : Configuration → Configuration) : (s.withConfig f).rounds = s.rounds := rfl
@[simp] theorem State.withConfig_tallies (f : Configuration → Configuration) : (s.withConfig f).tallies = s.tallies := rfl
@[simp] theorem State.withConfig_sessions (f : Configuration → Configuration) : (s.withConfig f).sessions = s.sessions := rfl
@[simp] theorem State.withConfig_proposal (f : Configuration → Configuration) : (s.withConfig f).proposal = s.proposal := rfl
@[simp] theorem State.withConfig_nextProposal (f : Configuration → Configuration) : (s.withConfig f).nextProposal = s.nextProposal := rfl
@[simp] theorem State.withConfig_outboxes (f : Configuration → Configuration) : (s.withConfig f).outboxes = s.outboxes := rfl
@[simp] theorem State.withConfig_ports (f : Configuration → Configuration) : (s.withConfig f).ports = s.ports := rfl
@[simp] theorem State.withConfig_ready (f : Configuration → Configuration) : (s.withConfig f).ready = s.ready := rfl
@[simp] theorem State.withConfig_pointer (f : Configuration → Configuration) : (s.withConfig f).pointer = s.pointer := rfl
@[simp] theorem State.withConfig_chan (f : Configuration → Configuration) (d : ChanId) : (s.withConfig f).chan d = s.chan d := rfl
@[simp] theorem State.withConfig_measure (f : Configuration → Configuration) (d : ChanId) : (s.withConfig f).measure d = s.measure d := rfl
@[simp] theorem State.withConfig_slot (f : Configuration → Configuration) (d : ChanId) : (s.withConfig f).slot d = s.slot d := rfl
@[simp] theorem State.withConfig_session (f : Configuration → Configuration) (k : HostId) : (s.withConfig f).session k = s.session k := rfl
@[simp] theorem State.withConfig_tally (f : Configuration → Configuration) (k : HostId) : (s.withConfig f).tally k = s.tally k := rfl
@[simp] theorem State.withConfig_outbox (f : Configuration → Configuration) (k : HostId) : (s.withConfig f).outbox k = s.outbox k := rfl
@[simp] theorem State.withConfig_port (f : Configuration → Configuration) (k : HostId) : (s.withConfig f).port k = s.port k := rfl
@[simp] theorem State.withConfig_hostReserved (f : Configuration → Configuration) (k : HostId) : (s.withConfig f).hostReserved k = s.hostReserved k := rfl
@[simp] theorem State.withConfig_attached (f : Configuration → Configuration) (k : HostId) : (s.withConfig f).attached k = s.attached k := rfl

/-! ### withProposal -/

@[simp] theorem State.withProposal_pending (o : Option Proposal) : (s.withProposal o).pending = s.pending := rfl
@[simp] theorem State.withProposal_now (o : Option Proposal) : (s.withProposal o).now = s.now := rfl
@[simp] theorem State.withProposal_pins (o : Option Proposal) : (s.withProposal o).pins = s.pins := rfl
@[simp] theorem State.withProposal_budget (o : Option Proposal) : (s.withProposal o).budget = s.budget := rfl
@[simp] theorem State.withProposal_grants (o : Option Proposal) : (s.withProposal o).grants = s.grants := rfl
@[simp] theorem State.withProposal_queue (o : Option Proposal) : (s.withProposal o).queue = s.queue := rfl
@[simp] theorem State.withProposal_channels (o : Option Proposal) : (s.withProposal o).channels = s.channels := rfl
@[simp] theorem State.withProposal_meas (o : Option Proposal) : (s.withProposal o).meas = s.meas := rfl
@[simp] theorem State.withProposal_scan (o : Option Proposal) : (s.withProposal o).scan = s.scan := rfl
@[simp] theorem State.withProposal_rounds (o : Option Proposal) : (s.withProposal o).rounds = s.rounds := rfl
@[simp] theorem State.withProposal_tallies (o : Option Proposal) : (s.withProposal o).tallies = s.tallies := rfl
@[simp] theorem State.withProposal_sessions (o : Option Proposal) : (s.withProposal o).sessions = s.sessions := rfl
@[simp] theorem State.withProposal_config (o : Option Proposal) : (s.withProposal o).config = s.config := rfl
@[simp] theorem State.withProposal_nextProposal (o : Option Proposal) : (s.withProposal o).nextProposal = s.nextProposal := rfl
@[simp] theorem State.withProposal_outboxes (o : Option Proposal) : (s.withProposal o).outboxes = s.outboxes := rfl
@[simp] theorem State.withProposal_ports (o : Option Proposal) : (s.withProposal o).ports = s.ports := rfl
@[simp] theorem State.withProposal_ready (o : Option Proposal) : (s.withProposal o).ready = s.ready := rfl
@[simp] theorem State.withProposal_pointer (o : Option Proposal) : (s.withProposal o).pointer = s.pointer := rfl
@[simp] theorem State.withProposal_chan (o : Option Proposal) (d : ChanId) : (s.withProposal o).chan d = s.chan d := rfl
@[simp] theorem State.withProposal_measure (o : Option Proposal) (d : ChanId) : (s.withProposal o).measure d = s.measure d := rfl
@[simp] theorem State.withProposal_slot (o : Option Proposal) (d : ChanId) : (s.withProposal o).slot d = s.slot d := rfl
@[simp] theorem State.withProposal_session (o : Option Proposal) (k : HostId) : (s.withProposal o).session k = s.session k := rfl
@[simp] theorem State.withProposal_tally (o : Option Proposal) (k : HostId) : (s.withProposal o).tally k = s.tally k := rfl
@[simp] theorem State.withProposal_outbox (o : Option Proposal) (k : HostId) : (s.withProposal o).outbox k = s.outbox k := rfl
@[simp] theorem State.withProposal_port (o : Option Proposal) (k : HostId) : (s.withProposal o).port k = s.port k := rfl
@[simp] theorem State.withProposal_settings (o : Option Proposal) (d : ChanId) : (s.withProposal o).settings d = s.settings d := rfl
@[simp] theorem State.withProposal_cap (o : Option Proposal) (k : HostId) : (s.withProposal o).cap k = s.cap k := rfl
@[simp] theorem State.withProposal_hostReserved (o : Option Proposal) (k : HostId) : (s.withProposal o).hostReserved k = s.hostReserved k := rfl
@[simp] theorem State.withProposal_attached (o : Option Proposal) (k : HostId) : (s.withProposal o).attached k = s.attached k := rfl

/-! ### respond -/

@[simp] theorem State.respond_pending (h : HostId) (f : Frame) (a : Answer) : (s.respond h f a).pending = s.pending := rfl
@[simp] theorem State.respond_now (h : HostId) (f : Frame) (a : Answer) : (s.respond h f a).now = s.now := rfl
@[simp] theorem State.respond_pins (h : HostId) (f : Frame) (a : Answer) : (s.respond h f a).pins = s.pins := rfl
@[simp] theorem State.respond_budget (h : HostId) (f : Frame) (a : Answer) : (s.respond h f a).budget = s.budget := rfl
@[simp] theorem State.respond_grants (h : HostId) (f : Frame) (a : Answer) : (s.respond h f a).grants = s.grants := rfl
@[simp] theorem State.respond_queue (h : HostId) (f : Frame) (a : Answer) : (s.respond h f a).queue = s.queue := rfl
@[simp] theorem State.respond_channels (h : HostId) (f : Frame) (a : Answer) : (s.respond h f a).channels = s.channels := rfl
@[simp] theorem State.respond_meas (h : HostId) (f : Frame) (a : Answer) : (s.respond h f a).meas = s.meas := rfl
@[simp] theorem State.respond_scan (h : HostId) (f : Frame) (a : Answer) : (s.respond h f a).scan = s.scan := rfl
@[simp] theorem State.respond_rounds (h : HostId) (f : Frame) (a : Answer) : (s.respond h f a).rounds = s.rounds := rfl
@[simp] theorem State.respond_tallies (h : HostId) (f : Frame) (a : Answer) : (s.respond h f a).tallies = s.tallies := rfl
@[simp] theorem State.respond_sessions (h : HostId) (f : Frame) (a : Answer) : (s.respond h f a).sessions = s.sessions := rfl
@[simp] theorem State.respond_config (h : HostId) (f : Frame) (a : Answer) : (s.respond h f a).config = s.config := rfl
@[simp] theorem State.respond_proposal (h : HostId) (f : Frame) (a : Answer) : (s.respond h f a).proposal = s.proposal := rfl
@[simp] theorem State.respond_nextProposal (h : HostId) (f : Frame) (a : Answer) : (s.respond h f a).nextProposal = s.nextProposal := rfl
@[simp] theorem State.respond_ports (h : HostId) (f : Frame) (a : Answer) : (s.respond h f a).ports = s.ports := rfl
@[simp] theorem State.respond_ready (h : HostId) (f : Frame) (a : Answer) : (s.respond h f a).ready = s.ready := rfl
@[simp] theorem State.respond_pointer (h : HostId) (f : Frame) (a : Answer) : (s.respond h f a).pointer = s.pointer := rfl
@[simp] theorem State.respond_chan (h : HostId) (f : Frame) (a : Answer) (d : ChanId) : (s.respond h f a).chan d = s.chan d := rfl
@[simp] theorem State.respond_measure (h : HostId) (f : Frame) (a : Answer) (d : ChanId) : (s.respond h f a).measure d = s.measure d := rfl
@[simp] theorem State.respond_slot (h : HostId) (f : Frame) (a : Answer) (d : ChanId) : (s.respond h f a).slot d = s.slot d := rfl
@[simp] theorem State.respond_session (h : HostId) (f : Frame) (a : Answer) (k : HostId) : (s.respond h f a).session k = s.session k := rfl
@[simp] theorem State.respond_tally (h : HostId) (f : Frame) (a : Answer) (k : HostId) : (s.respond h f a).tally k = s.tally k := rfl
@[simp] theorem State.respond_port (h : HostId) (f : Frame) (a : Answer) (k : HostId) : (s.respond h f a).port k = s.port k := rfl
@[simp] theorem State.respond_settings (h : HostId) (f : Frame) (a : Answer) (d : ChanId) : (s.respond h f a).settings d = s.settings d := rfl
@[simp] theorem State.respond_cap (h : HostId) (f : Frame) (a : Answer) (k : HostId) : (s.respond h f a).cap k = s.cap k := rfl
@[simp] theorem State.respond_hostReserved (h : HostId) (f : Frame) (a : Answer) (k : HostId) : (s.respond h f a).hostReserved k = s.hostReserved k := rfl
@[simp] theorem State.respond_attached (h : HostId) (f : Frame) (a : Answer) (k : HostId) : (s.respond h f a).attached k = s.attached k := rfl

/-! ### The record each update changes -/

@[simp] theorem State.reach_now (t : Nat) : (s.reach t).now = max s.now t := rfl
theorem State.withChannel_chan (c : ChanId) (f : Channel → Channel) (d : ChanId) :
    (s.withChannel c f).chan d = if d = c then f (s.chan d) else s.chan d := Table.read_upd ..
theorem State.withMeasure_measure (c : ChanId) (f : Measurement → Measurement) (d : ChanId) :
    (s.withMeasure c f).measure d = if d = c then f (s.measure d) else s.measure d := Table.read_upd ..
theorem State.withSlot_slot (c : ChanId) (f : Option Grant → Option Grant) (d : ChanId) :
    (s.withSlot c f).slot d = if d = c then f (s.slot d) else s.slot d := Table.read_upd ..
theorem State.withSession_session (h : HostId) (f : Session → Session) (k : HostId) :
    (s.withSession h f).session k = if k = h then f (s.session k) else s.session k := Table.read_upd ..
theorem State.withTally_tally (h : HostId) (f : Tally → Tally) (k : HostId) :
    (s.withTally h f).tally k = if k = h then f (s.tally k) else s.tally k := Table.read_upd ..
theorem State.withOutbox_outbox (h : HostId) (f : List OutEntry → List OutEntry) (k : HostId) :
    (s.withOutbox h f).outbox k = if k = h then f (s.outbox k) else s.outbox k := Table.read_upd ..
theorem State.withPort_port (h : HostId) (f : Port → Port) (k : HostId) :
    (s.withPort h f).port k = if k = h then f (s.port k) else s.port k := Table.read_upd ..
theorem State.withHostReserved_hostReserved (h : HostId) (f : Nat → Nat) (k : HostId) :
    (s.withHostReserved h f).hostReserved k = if k = h then f (s.hostReserved k) else s.hostReserved k :=
  Table.read_upd ..

@[simp] theorem State.withSlot_admission (c : ChanId) (f : Option Grant → Option Grant) :
    (s.withSlot c f).grants.admission = s.grants.admission := rfl
@[simp] theorem State.withSlot_nextNumber (c : ChanId) (f : Option Grant → Option Grant) :
    (s.withSlot c f).grants.nextNumber = s.grants.nextNumber := rfl
@[simp] theorem State.withSlot_hostReserved (c : ChanId) (f : Option Grant → Option Grant) (k : HostId) :
    (s.withSlot c f).hostReserved k = s.hostReserved k := rfl
@[simp] theorem State.withAdmission_admission (f : List ChanId → List ChanId) :
    (s.withAdmission f).grants.admission = f s.grants.admission := rfl
@[simp] theorem State.withAdmission_nextNumber (f : List ChanId → List ChanId) :
    (s.withAdmission f).grants.nextNumber = s.grants.nextNumber := rfl
@[simp] theorem State.withAdmission_slot (f : List ChanId → List ChanId) (d : ChanId) :
    (s.withAdmission f).slot d = s.slot d := rfl
@[simp] theorem State.withAdmission_hostReserved (f : List ChanId → List ChanId) (k : HostId) :
    (s.withAdmission f).hostReserved k = s.hostReserved k := rfl
@[simp] theorem State.withHostReserved_admission (h : HostId) (f : Nat → Nat) :
    (s.withHostReserved h f).grants.admission = s.grants.admission := rfl
@[simp] theorem State.withHostReserved_nextNumber (h : HostId) (f : Nat → Nat) :
    (s.withHostReserved h f).grants.nextNumber = s.grants.nextNumber := rfl
@[simp] theorem State.withHostReserved_slot (h : HostId) (f : Nat → Nat) (d : ChanId) :
    (s.withHostReserved h f).slot d = s.slot d := rfl
@[simp] theorem State.withNextNumber_admission (n : Nat) :
    (s.withNextNumber n).grants.admission = s.grants.admission := rfl
@[simp] theorem State.withNextNumber_nextNumber (n : Nat) : (s.withNextNumber n).grants.nextNumber = n := rfl
@[simp] theorem State.withNextNumber_slot (n : Nat) (d : ChanId) : (s.withNextNumber n).slot d = s.slot d := rfl
@[simp] theorem State.withNextNumber_hostReserved (n : Nat) (k : HostId) :
    (s.withNextNumber n).hostReserved k = s.hostReserved k := rfl

@[simp] theorem State.withReserved_budget (f : Nat → Nat) :
    (s.withReserved f).budget = { s.budget with reserved := f s.budget.reserved } := rfl
@[simp] theorem State.withReleasing_budget (f : Nat → Nat) :
    (s.withReleasing f).budget = { s.budget with releasing := f s.budget.releasing } := rfl
@[simp] theorem State.withTotal_budget (n : Nat) : (s.withTotal n).budget = { s.budget with total := n } := rfl
@[simp] theorem State.readStraps_pins (v : BitVec 2) : (s.readStraps v).pins = { s.pins with straps := v } := rfl
@[simp] theorem State.withFilter_budget (b : Bool) (o : Option Nat) :
    (s.withFilter b o).budget = { s.budget with derateTaken := b, derateHold := o } := rfl
@[simp] theorem State.withConfig_config (f : Configuration → Configuration) : (s.withConfig f).config = f s.config := rfl
@[simp] theorem State.withProposal_proposal (o : Option Proposal) : (s.withProposal o).proposal = o := rfl

end Machine

end Sys2Proof
end

