-- ==== Sys2Proof/Laws/Acts.lean ====
section
/-! SUPPORT. Everything the shared operations of the grants and the wait queue can do, said once: each of them is a run of a few
small acts, so that a law is proved for the acts and holds for the operations. -/

namespace Sys2Proof.Machine

/-- The acts that scans, grant ends, releases, shedding and removals are made of. -/
inductive Act : State → State → Prop where
  /-- A notice is posted to one host. -/
  | post (s : State) (h : HostId) (n : Notice) : Act s (s.post h n)
  /-- Entries leave the queue. -/
  | leave (s : State) (es : List WaitEntry) (sub : es.Sublist s.queue.entries) : Act s (s.setEntries es)
  /-- An admissible entry is admitted. -/
  | admitEntry (s : State) (e : WaitEntry) (mem : e ∈ s.queue.entries) (adm : s.admissible e = true) : Act s (s.admitEntry e).1
  /-- A grant ends, and its channel goes IDLE or FAULTED. -/
  | finish (s : State) (c : ChanId) (g : Grant) (after : ChanState) (slot : s.slot c = some g)
      (rest : after = .idle ∨ after = .faulted) (gate : (s.chan c).state ≠ .ramping ∧ (s.chan c).state ≠ .on) :
      Act s (s.removeGrant c g after)
  /-- A grant's release cause is recorded. -/
  | mark (s : State) (c : ChanId) (k : ReleaseCause) : Act s (s.markCause c k)
  /-- The discharge of a grant begins. -/
  | discharge (s : State) (c : ChanId) (g k : Grant) (slot : s.slot c = some k) (amount : k.amount = g.amount)
      (state : (s.chan c).state = .ramping ∨ (s.chan c).state = .on) : Act s (s.startDischarge c g)
  /-- An IDLE channel with no grant is quarantined. -/
  | fault (s : State) (c : ChanId) (state : (s.chan c).state = .idle) :
      Act s (s.withChannel c fun _ => Channel.rest .faulted)
  /-- CLOSING is ended for a host that holds no grant. -/
  | close (s : State) (h : HostId) : Act s (s.endClosing h)

/-- A run of acts. -/
inductive Acts : State → State → Prop where
  | refl (s : State) : Acts s s
  | tail {s t u : State} : Acts s t → Act t u → Acts s u

theorem Acts.single {s t : State} (h : Act s t) : Acts s t := (Acts.refl s).tail h

theorem Acts.trans {s t u : State} (h : Acts s t) (k : Acts t u) : Acts s u := by
  induction k with
  | refl => exact h
  | tail _ a ih => exact ih.tail a

/-- A law that every act keeps is kept by every run of acts. -/
theorem Acts.keeps {law : State → Prop} (step : ∀ s t, law s → Act s t → law t) {s t : State} (h : Acts s t) (l : law s) :
    law t := by
  induction h with
  | refl => exact l
  | tail _ a ih => exact step _ _ ih a

/-- A relation to the start that every act extends is had by every run of acts. -/
theorem Acts.relates {r : State → State → Prop} (refl : ∀ s, r s s) (trans : ∀ s t u, r s t → r t u → r s u)
    (step : ∀ s t, Act s t → r s t) {s t : State} (h : Acts s t) : r s t := by
  induction h with
  | refl => exact refl _
  | tail _ a ih => exact trans _ _ _ ih (step _ _ a)

/-! ### Postings -/

theorem acts_post (s : State) (h : HostId) (n : Notice) : Acts s (s.post h n) := .single (.post ..)

theorem acts_postOwner (s : State) (g : Grant) (n : Notice) : Acts s (s.postOwner g n) := by
  unfold State.postOwner
  split
  · exact acts_post ..
  · exact .refl _

theorem acts_broadcast (s : State) (n : Notice) : Acts s (s.broadcast n) :=
  (((acts_post ..).trans (acts_post ..)).trans (acts_post ..)).trans (acts_post ..)

theorem acts_postEnded (s : State) (c : ChanId) (g : Grant) : Acts s (s.postEnded c g) := by
  unfold State.postEnded
  split
  · exact .refl _
  · exact .refl _
  · exact acts_postOwner ..

theorem acts_postRevoked (s : State) (c : ChanId) (g : Grant) (k : ReleaseCause) : Acts s (s.postRevoked c g k) := by
  cases k <;> first | exact acts_postOwner .. | exact .refl _

theorem acts_postFailed (s : State) (k : FailCause) (es : List WaitEntry) : Acts s (s.postFailed k es) := by
  induction es generalizing s with
  | nil => exact .refl _
  | cons e rest ih => exact (acts_post s e.host _).trans (ih _)

/-! ### The queue and its scan -/

@[simp] theorem State.post_queue (s : State) (h : HostId) (n : Notice) : (s.post h n).queue = s.queue := by
  unfold State.post; split <;> rfl

@[simp] theorem State.postFailed_queue (s : State) (k : FailCause) (es : List WaitEntry) :
    (s.postFailed k es).queue = s.queue := by
  induction es generalizing s with
  | nil => rfl
  | cons e rest ih => exact (ih _).trans (State.post_queue ..)

@[simp] theorem State.setEntries_entries (s : State) (es : List WaitEntry) : (s.setEntries es).queue.entries = es := by
  unfold State.setEntries State.judgeHead WaitQueue.judge
  dsimp only
  split
  · rfl
  · split
    · rfl
    · split
      · rfl
      · split <;> rfl

theorem acts_dropEntries (s : State) (p : WaitEntry → Bool) : Acts s (s.dropEntries p) :=
  .single (.leave _ _ List.filter_sublist)

theorem acts_failEntries (s : State) (p : WaitEntry → Bool) (k : FailCause) : Acts s (s.failEntries p k) :=
  (acts_postFailed ..).trans (acts_dropEntries ..)

@[simp] theorem State.createGrant_queue (s : State) (e : WaitEntry) (i : Item) :
    (s.createGrant e i).queue = s.queue := by simp [State.createGrant]

@[simp] theorem State.createGrants_queue (s : State) (e : WaitEntry) (is : List Item) :
    (s.createGrants e is).1.queue = s.queue := by
  induction is generalizing s with
  | nil => rfl
  | cons i rest ih => exact (ih _).trans (State.createGrant_queue ..)

@[simp] theorem State.admit_entries (s : State) (e : WaitEntry) :
    (s.admitEntry e).1.queue.entries = s.queue.entries.erase e := by
  simp [State.admitEntry, State.takeOut]

end Sys2Proof.Machine
end

