-- ==== Sys2Proof/Laws/Scan.lean ====
section
/-! SUPPORT. The admission scan: admissions draw budget and take channels, so an entry passed over stays not admissible; and a
scan is a run of admissions and postings. -/

namespace Sys2Proof.Machine

/-! ### Admissions only draw -/

/-- `t` follows `s` by draws alone: no more budget free, no less reserved for a host, no channel free that was not. -/
structure Drawn (s t : State) : Prop where
  free : t.free ≤ s.free
  reserved : ∀ h, s.hostReserved h ≤ t.hostReserved h
  cap : ∀ h, t.cap h = s.cap h
  chan : ∀ c, (t.chan c).state = .idle → t.slot c = none → (s.chan c).state = .idle ∧ s.slot c = none

theorem Drawn.refl (s : State) : Drawn s s := ⟨Nat.le_refl _, fun _ => Nat.le_refl _, fun _ => rfl, fun _ h k => ⟨h, k⟩⟩

theorem Drawn.trans {s t u : State} (h : Drawn s t) (k : Drawn t u) : Drawn s u where
  free := k.free.trans h.free
  reserved x := (h.reserved x).trans (k.reserved x)
  cap x := (k.cap x).trans (h.cap x)
  chan c a b := let ⟨a', b'⟩ := k.chan c a b; h.chan c a' b'

theorem Drawn.admissible {s t : State} (h : Drawn s t) {e : WaitEntry} (k : t.admissible e = true) :
    s.admissible e = true := by
  simp only [State.admissible, State.channelsFree, Bool.and_eq_true, List.all_eq_true, beq_iff_eq, decide_eq_true_eq,
    Option.isNone_iff_eq_none] at k ⊢
  obtain ⟨⟨a, b⟩, c⟩ := k
  exact ⟨⟨fun i m => h.chan _ (a i m).1 (a i m).2, b.trans h.free⟩,
    by have := h.reserved e.host; have := h.cap e.host; omega⟩

@[simp] theorem State.createGrant_chan (s : State) (e : WaitEntry) (i : Item) (c : ChanId) :
    (s.createGrant e i).chan c =
      if c = i.channel then { s.chan c with state := .checking, retries := 0, idleFaults := 0 } else s.chan c := by
  simp [State.createGrant, State.withChannel_chan]

@[simp] theorem State.createGrant_slot (s : State) (e : WaitEntry) (i : Item) (c : ChanId) :
    (s.createGrant e i).slot c = if c = i.channel then some (s.grantFor e i) else s.slot c := by
  simp [State.createGrant, State.withSlot_slot]

@[simp] theorem State.createGrant_budget (s : State) (e : WaitEntry) (i : Item) :
    (s.createGrant e i).budget = { s.budget with reserved := s.budget.reserved + i.amount } := by
  simp [State.createGrant]

@[simp] theorem State.createGrant_hostReserved (s : State) (e : WaitEntry) (i : Item) (h : HostId) :
    (s.createGrant e i).hostReserved h = if h = e.host then s.hostReserved h + i.amount else s.hostReserved h := by
  simp [State.createGrant, State.withHostReserved_hostReserved]

@[simp] theorem State.createGrant_admission (s : State) (e : WaitEntry) (i : Item) :
    (s.createGrant e i).grants.admission = s.grants.admission ++ [i.channel] := by
  simp [State.createGrant]

@[simp] theorem State.createGrant_nextNumber (s : State) (e : WaitEntry) (i : Item) :
    (s.createGrant e i).grants.nextNumber = nextGrantNumber s.issued := by
  simp [State.createGrant]

@[simp] theorem State.createGrant_measure (s : State) (e : WaitEntry) (i : Item) (c : ChanId) :
    (s.createGrant e i).measure c =
      if c = i.channel then (s.measure c).restart s.config.averaging else s.measure c := by
  simp [State.createGrant, State.withMeasure_measure]

@[simp] theorem State.createGrant_config (s : State) (e : WaitEntry) (i : Item) :
    (s.createGrant e i).config = s.config := by simp [State.createGrant]

@[simp] theorem State.createGrant_sessions (s : State) (e : WaitEntry) (i : Item) :
    (s.createGrant e i).sessions = s.sessions := by simp [State.createGrant]

@[simp] theorem State.createGrant_outboxes (s : State) (e : WaitEntry) (i : Item) :
    (s.createGrant e i).outboxes = s.outboxes := by simp [State.createGrant]

@[simp] theorem State.createGrant_now (s : State) (e : WaitEntry) (i : Item) :
    (s.createGrant e i).now = s.now := by simp [State.createGrant]

theorem drawn_createGrant (s : State) (e : WaitEntry) (i : Item) : Drawn s (s.createGrant e i) where
  free := by simp [State.free]; omega
  reserved h := by simp only [State.createGrant_hostReserved]; split <;> omega
  cap h := by simp [State.cap]
  chan c := by
    simp only [State.createGrant_chan, State.createGrant_slot]
    split
    · intro h; cases h
    · exact fun a b => ⟨a, b⟩

theorem drawn_createGrants (s : State) (e : WaitEntry) (is : List Item) : Drawn s (s.createGrants e is).1 := by
  induction is generalizing s with
  | nil => exact .refl _
  | cons i rest ih => exact (drawn_createGrant s e i).trans (ih _)

/-- A state that differs in queue and outboxes alone draws nothing. -/
theorem Drawn.of_same {s t : State} (b : t.budget = s.budget) (g : t.grants = s.grants) (c : t.channels = s.channels)
    (k : t.config = s.config) : Drawn s t where
  free := by simp [State.free, b]
  reserved h := by simp [State.hostReserved, g]
  cap h := by simp [State.cap, k]
  chan d := by simp only [State.chan, State.slot, c, g]; exact fun a b => ⟨a, b⟩

/-- Replacing the entries changes the queue alone. -/
theorem State.setEntries_eq (s : State) (es : List WaitEntry) :
    s.setEntries es = { s with queue := (s.setEntries es).queue } := by
  unfold State.setEntries State.judgeHead
  dsimp only
  split <;> rfl

/-- A posting changes the outboxes alone. -/
theorem State.post_eq (s : State) (h : HostId) (n : Notice) : s.post h n = { s with outboxes := (s.post h n).outboxes } := by
  unfold State.post
  split <;> rfl

theorem drawn_setEntries (s : State) (es : List WaitEntry) : Drawn s (s.setEntries es) := by
  rw [State.setEntries_eq]; exact .of_same rfl rfl rfl rfl

theorem drawn_post (s : State) (h : HostId) (n : Notice) : Drawn s (s.post h n) := by
  rw [State.post_eq]; exact .of_same rfl rfl rfl rfl

theorem drawn_admit (s : State) (e : WaitEntry) : Drawn s (s.admitEntry e).1 :=
  (drawn_createGrants s e e.items).trans (drawn_setEntries ..)

/-! ### A scan is a run of acts -/

/-- The walk at a point where the entries passed over, all not admissible, stand before those still to be examined. -/
theorem scanWalk_spec (claim : Option (HostId × Byte)) (todo : List WaitEntry) :
    ∀ (passed : List WaitEntry) (flag : Bool) (s : State) (fate : Fate),
      s.queue.entries = passed ++ todo → (∀ e ∈ passed, s.admissible e = false) → (flag = true ↔ passed ≠ []) →
      let t := (scanWalk claim todo flag (s, fate)).1
      Acts s t ∧ Drawn s t ∧ t.queue.entries.Sublist s.queue.entries ∧
      (∀ e, t.queue.entries.head? = some e → t.admissible e = false) ∧
      (t.queue.headBlocking = false → ∀ e ∈ t.queue.entries, t.admissible e = false) := by
  induction todo with
  | nil =>
    intro passed flag s fate hq hp _
    simp only [List.append_nil] at hq
    refine ⟨.refl _, .refl _, List.Sublist.refl _, fun e he => ?_, fun _ e he => hp e (hq ▸ he)⟩
    exact hp e (hq ▸ List.mem_of_mem_head? he)
  | cons e rest ih =>
    intro passed flag s fate hq hp hflag
    rw [scanWalk]
    split
    · next hb =>
      simp only [Bool.and_eq_true] at hb
      refine ⟨.refl _, .refl _, List.Sublist.refl _, fun x hx => ?_, fun h => by simp_all⟩
      obtain ⟨p, ps, rfl⟩ := List.exists_cons_of_ne_nil (hflag.1 hb.1)
      simp only [hq, List.cons_append, List.head?_cons, Option.some.injEq] at hx
      exact hp x (by simp [hx])
    · split
      · next _ ha =>
        have hnot : e ∉ passed := fun m => by simp [hp e m] at ha
        have hent : (s.admitEntry e).1.queue.entries = passed ++ rest := by
          rw [State.admit_entries, hq, List.erase_append_right _ hnot, List.erase_cons_head]
        have hsub : (passed ++ rest).Sublist s.queue.entries := by
          rw [hq]; exact (List.Sublist.refl _).append (List.sublist_cons_self _ _)
        have hin : ∀ x ∈ passed, (s.admitEntry e).1.admissible x = false := fun x m => by
          by_contra hx
          have := (drawn_admit s e).admissible (by simpa using hx)
          simp [hp x m] at this
        have hact : Act s (s.admitEntry e).1 := .admitEntry s e (by simp [hq]) ha
        dsimp only
        split
        · obtain ⟨a, d, l, x, y⟩ := ih passed flag (s.admitEntry e).1 (.admitted (s.admitEntry e).2) hent hin hflag
          exact ⟨(Acts.single hact).trans a, (drawn_admit s e).trans d, l.trans (by rwa [hent]), x, y⟩
        · have hin' : ∀ x ∈ passed,
              ((s.admitEntry e).1.post e.host (.claimAdmitted e.tag (s.admitEntry e).2)).admissible x = false := fun x m => by
            by_contra hx
            have := (drawn_post ..).admissible (by simpa using hx : _ = true)
            simp [hin x m] at this
          obtain ⟨a, d, l, x, y⟩ := ih passed flag ((s.admitEntry e).1.post e.host (.claimAdmitted e.tag (s.admitEntry e).2)) fate
            (by rw [State.post_queue, hent]) hin' hflag
          refine ⟨((Acts.single hact).trans (acts_post ..)).trans a,
            ((drawn_admit s e).trans (drawn_post ..)).trans d, l.trans ?_, x, y⟩
          rw [State.post_queue, hent]; exact hsub
      · next _ ha =>
        have := ih (passed ++ [e]) true s (if claim = some e.key then .passedOver else fate) (by simp [hq])
          (fun x m => by
            simp only [List.mem_append, List.mem_singleton] at m
            rcases m with m | rfl
            · exact hp x m
            · simpa using ha) (by simp)
        exact this

theorem acts_scanQueue (s : State) : Acts s s.scanQueue :=
  (scanWalk_spec none s.queue.entries [] false s .unseen rfl (by simp) (by simp)).1

theorem acts_scanFor (s : State) (h : HostId) (tag : Byte) : Acts s (s.scanFor h tag).1 :=
  (scanWalk_spec (some (h, tag)) s.queue.entries [] false s .unseen rfl (by simp) (by simp)).1

theorem drawn_scanQueue (s : State) : Drawn s s.scanQueue :=
  (scanWalk_spec none s.queue.entries [] false s .unseen rfl (by simp) (by simp)).2.1

theorem sublist_scanQueue (s : State) : s.scanQueue.queue.entries.Sublist s.queue.entries :=
  (scanWalk_spec none s.queue.entries [] false s .unseen rfl (by simp) (by simp)).2.2.1

theorem acts_failAndScan (s : State) (p : WaitEntry → Bool) (k : FailCause) : Acts s (s.failAndScan p k) := by
  unfold State.failAndScan
  split
  · exact (acts_failEntries ..).trans (acts_scanQueue _)
  · exact .refl _

end Sys2Proof.Machine
end

