-- ==== Sys2Proof/Laws/Release.lean ====
section
/-! SUPPORT. Grant ends, quarantines, releases, shedding and recomputation are runs of acts. -/

namespace Sys2Proof.Machine

/-! ### What the small updates leave -/

@[simp] theorem State.markCause_chan (s : State) (c d : ChanId) (k : ReleaseCause) :
    (s.markCause c k).chan d = s.chan d := rfl

theorem State.markCause_slot (s : State) (c d : ChanId) (k : ReleaseCause) :
    (s.markCause c k).slot d = if d = c then (s.slot d).map fun g => { g with cause := some k } else s.slot d :=
  State.withSlot_slot ..

@[simp] theorem State.post_chan (s : State) (h : HostId) (n : Notice) (d : ChanId) : (s.post h n).chan d = s.chan d := by
  rw [State.post_eq]; rfl

@[simp] theorem State.post_slot (s : State) (h : HostId) (n : Notice) (d : ChanId) : (s.post h n).slot d = s.slot d := by
  rw [State.post_eq]; rfl

/-- A posting to an owner changes the outboxes alone. -/
theorem State.postOwner_eq (s : State) (g : Grant) (n : Notice) :
    s.postOwner g n = { s with outboxes := (s.postOwner g n).outboxes } := by
  unfold State.postOwner
  split
  · exact State.post_eq ..
  · rfl

/-- GRANT_REVOKED changes the outboxes alone. -/
theorem State.postRevoked_eq (s : State) (c : ChanId) (g : Grant) (k : ReleaseCause) :
    s.postRevoked c g k = { s with outboxes := (s.postRevoked c g k).outboxes } := by
  cases k <;> first | exact State.postOwner_eq .. | rfl

/-- GRANT_ENDED changes the outboxes alone. -/
theorem State.postEnded_eq (s : State) (c : ChanId) (g : Grant) :
    s.postEnded c g = { s with outboxes := (s.postEnded c g).outboxes } := by
  unfold State.postEnded
  split
  · rfl
  · rfl
  · exact State.postOwner_eq ..

/-- A broadcast changes the outboxes alone. -/
theorem State.broadcast_eq (s : State) (n : Notice) :
    s.broadcast n = { s with outboxes := (s.broadcast n).outboxes } := by
  unfold State.broadcast
  rw [State.post_eq ((((s.post 0 n).post 1 n)).post 2 n), State.post_eq ((s.post 0 n).post 1 n), State.post_eq (s.post 0 n),
    State.post_eq s]

@[simp] theorem State.postRevoked_chan (s : State) (c d : ChanId) (g : Grant) (k : ReleaseCause) :
    (s.postRevoked c g k).chan d = s.chan d := by rw [State.postRevoked_eq]; rfl

@[simp] theorem State.postRevoked_slot (s : State) (c d : ChanId) (g : Grant) (k : ReleaseCause) :
    (s.postRevoked c g k).slot d = s.slot d := by rw [State.postRevoked_eq]; rfl

/-! ### Ends and quarantine -/

theorem acts_announceFault (s : State) (c : ChanId) : Acts s (s.announceFault c) :=
  (acts_broadcast ..).trans (acts_failAndScan ..)

theorem acts_faultIdle (s : State) (c : ChanId) (h : (s.chan c).state = .idle) : Acts s (s.faultIdle c) :=
  (Acts.single (.fault s c h)).trans (acts_announceFault ..)

theorem acts_endToIdle (s : State) (c : ChanId) (h : (s.chan c).state ≠ .ramping ∧ (s.chan c).state ≠ .on) :
    Acts s (s.endToIdle c) := by
  unfold State.endToIdle
  split
  · exact .refl _
  · next g hg =>
    exact (((Acts.single (.finish s c g .idle hg (.inl rfl) h)).trans (acts_postEnded ..)).trans
      (acts_scanQueue _)).tail (.close ..)

theorem acts_endToFaulted (s : State) (c : ChanId) (h : (s.chan c).state ≠ .ramping ∧ (s.chan c).state ≠ .on) :
    Acts s (s.endToFaulted c) := by
  unfold State.endToFaulted
  split
  · exact .refl _
  · next g hg =>
    exact ((((Acts.single (.finish s c g .faulted hg (.inr rfl) h)).trans (acts_postEnded ..)).trans
      (acts_scanQueue _)).trans (acts_announceFault ..)).tail (.close ..)

/-! ### Releases -/

theorem acts_releaseGrant (s : State) (c : ChanId) (k : ReleaseCause) : Acts s (s.releaseGrant c k) := by
  unfold State.releaseGrant
  split
  · exact .refl _
  · next g hg =>
    have marked : Acts s ((s.markCause c k).postRevoked c g k) := (Acts.single (.mark ..)).trans (acts_postRevoked ..)
    split
    case h_1 hc => exact marked.trans (acts_endToIdle _ _ (by simp [hc]))
    case h_2 hc => exact marked.trans (acts_endToIdle _ _ (by simp [hc]))
    case h_3 hc => exact marked.trans (acts_endToIdle _ _ (by simp [hc]))
    case h_4 hc =>
      exact marked.tail (.discharge _ c g { g with cause := some k } (by simp [State.markCause_slot, hg]) rfl
        (by simp [hc]))
    case h_5 hc =>
      exact marked.tail (.discharge _ c g { g with cause := some k } (by simp [State.markCause_slot, hg]) rfl
        (by simp [hc]))
    all_goals exact .refl _

theorem acts_releaseAll (s : State) (p : Grant → Bool) (k : ReleaseCause) : Acts s (s.releaseAll p k) := by
  unfold State.releaseAll
  generalize s.grants.admission = l
  induction l generalizing s with
  | nil => exact .refl _
  | cons c rest ih =>
    refine Acts.trans ?_ (ih _)
    dsimp only
    split
    · exact .refl _
    · split
      · exact acts_releaseGrant ..
      · exact .refl _

theorem acts_shed (n : Nat) (s : State) : Acts s (s.shed n) := by
  induction n generalizing s with
  | zero => exact .refl _
  | succ n ih =>
    rw [State.shed]
    split
    · exact .refl _
    · split
      · exact .refl _
      · exact (acts_releaseGrant ..).trans (ih _)

/-- Once the total has its new value, recomputation is a run of acts. -/
theorem acts_recompute (s : State) (k : BudgetCause) : Acts (s.withTotal s.selectedLevel) (s.recompute k) := by
  unfold State.recompute
  dsimp only
  split
  · exact (acts_shed ..).trans (acts_broadcast ..)
  · split
    · exact (acts_broadcast ..).trans (acts_scanQueue _)
    · exact .refl _

theorem acts_queueTeardown (s : State) (h : HostId) : Acts s (s.queueTeardown h) := by
  unfold State.queueTeardown
  split
  · exact (acts_dropEntries ..).trans (acts_scanQueue _)
  · exact .refl _

end Sys2Proof.Machine
end

