-- ==== Sys2Proof/Laws/Frames.lean ====
section
/-! SUPPORT. What scans, grant ends, releases and shedding leave as it was, and laws that every act keeps. -/

namespace Sys2Proof.Machine

/-- The blocks that no act changes. -/
structure Quiet (s t : State) : Prop where
  pending      : t.pending = s.pending
  now          : t.now = s.now
  pins         : t.pins = s.pins
  total        : t.budget.total = s.budget.total
  derateTaken  : t.budget.derateTaken = s.budget.derateTaken
  derateHold   : t.budget.derateHold = s.budget.derateHold
  arrival      : t.queue.nextArrival = s.queue.nextArrival
  scan         : t.scan = s.scan
  rounds       : t.rounds = s.rounds
  tallies      : t.tallies = s.tallies
  config       : t.config = s.config
  proposal     : t.proposal = s.proposal
  nextProposal : t.nextProposal = s.nextProposal
  ports        : t.ports = s.ports
  ready        : t.ready = s.ready
  pointer      : t.pointer = s.pointer
  attached     : ∀ h, t.attached h = s.attached h
  epoch        : ∀ h, (t.session h).epoch = (s.session h).epoch
  lease        : ∀ h, (t.session h).lease = (s.session h).lease

theorem Quiet.refl (s : State) : Quiet s s := by constructor <;> intros <;> rfl

theorem Quiet.trans {s t u : State} (h : Quiet s t) (k : Quiet t u) : Quiet s u where
  pending := k.pending.trans h.pending
  now := k.now.trans h.now
  pins := k.pins.trans h.pins
  total := k.total.trans h.total
  derateTaken := k.derateTaken.trans h.derateTaken
  derateHold := k.derateHold.trans h.derateHold
  arrival := k.arrival.trans h.arrival
  scan := k.scan.trans h.scan
  rounds := k.rounds.trans h.rounds
  tallies := k.tallies.trans h.tallies
  config := k.config.trans h.config
  proposal := k.proposal.trans h.proposal
  nextProposal := k.nextProposal.trans h.nextProposal
  ports := k.ports.trans h.ports
  ready := k.ready.trans h.ready
  pointer := k.pointer.trans h.pointer
  attached x := (k.attached x).trans (h.attached x)
  epoch x := (k.epoch x).trans (h.epoch x)
  lease x := (k.lease x).trans (h.lease x)

@[simp] theorem State.setEntries_arrival (s : State) (es : List WaitEntry) :
    (s.setEntries es).queue.nextArrival = s.queue.nextArrival := by
  unfold State.setEntries State.judgeHead WaitQueue.judge
  dsimp only
  split
  · rfl
  · split
    · rfl
    · split
      · rfl
      · split <;> rfl

theorem quiet_setEntries (s : State) (es : List WaitEntry) : Quiet s (s.setEntries es) := by
  have arrival := State.setEntries_arrival s es
  rw [State.setEntries_eq]
  exact { Quiet.refl s with arrival := arrival }

theorem quiet_post (s : State) (h : HostId) (n : Notice) : Quiet s (s.post h n) := by
  rw [State.post_eq]; exact { Quiet.refl s with }

theorem quiet_createGrant (s : State) (e : WaitEntry) (i : Item) : Quiet s (s.createGrant e i) := by
  constructor <;> intros <;> simp [State.createGrant, State.attached]

theorem quiet_createGrants (s : State) (e : WaitEntry) (is : List Item) : Quiet s (s.createGrants e is).1 := by
  induction is generalizing s with
  | nil => exact .refl _
  | cons i rest ih => exact (quiet_createGrant s e i).trans (ih _)

theorem quiet_removeGrant (s : State) (c : ChanId) (g : Grant) (after : ChanState) : Quiet s (s.removeGrant c g after) := by
  constructor <;> intros <;> simp [State.removeGrant, State.attached]

theorem quiet_startDischarge (s : State) (c : ChanId) (g : Grant) : Quiet s (s.startDischarge c g) := by
  constructor <;> intros <;> simp [State.startDischarge, State.attached]

theorem quiet_endClosing (s : State) (h : HostId) : Quiet s (s.endClosing h) := by
  unfold State.endClosing
  split
  · next cond =>
    constructor <;> intros <;> simp [State.attached, State.withSession_session]
    all_goals split <;> simp_all
  · exact .refl _

/-- No act changes a quiet block. -/
theorem Act.quiet {s t : State} (a : Act s t) : Quiet s t := by
  cases a with
  | post => exact quiet_post ..
  | leave => exact quiet_setEntries ..
  | admitEntry e => exact (quiet_createGrants s e e.items).trans (quiet_setEntries ..)
  | finish => exact quiet_removeGrant ..
  | mark => constructor <;> intros <;> rfl
  | discharge => exact quiet_startDischarge ..
  | fault => constructor <;> intros <;> rfl
  | close => exact quiet_endClosing ..

/-- No run of acts changes a quiet block. -/
theorem Acts.quiet {s t : State} (h : Acts s t) : Quiet s t :=
  h.relates Quiet.refl (fun _ _ _ => Quiet.trans) fun _ _ => Act.quiet

end Sys2Proof.Machine
end

