-- ==== Sys2Proof/Laws/Layout.lean ====
section
/-! SUPPORT. Fields written to bytes and read back. -/

namespace Sys2Proof.Machine

theorem toNat_byte (n : Nat) (h : n ≤ 255) : (BitVec.ofNat 8 n).toNat = n := by
  simp only [BitVec.toNat_ofNat]; omega

theorem word2_byte2 (n : Nat) (h : n ≤ 65535) : word2 (BitVec.ofNat 8 (n / 256)) (BitVec.ofNat 8 n) = n := by
  simp only [word2, BitVec.toNat_ofNat]; omega

theorem channelOf_val (c : ChanId) : channelOf c.val = some c := by simp [channelOf]

theorem channelOf_byte (c : ChanId) : channelOf (BitVec.ofNat 8 c.val).toNat = some c := by
  rw [toNat_byte _ (by omega), channelOf_val]

/-- A byte names the channel of its number. -/
theorem channelOf_of_eq {b : Byte} {c : ChanId} (h : b.toNat = c.val) : channelOf b.toNat = some c := by
  rw [h, channelOf_val]

/-- A byte above 7 names no channel. -/
theorem channelOf_eq_none {b : Byte} (h : 8 ≤ b.toNat) : channelOf b.toNat = none := by
  simp only [channelOf]; rw [dif_neg (by omega)]

@[simp] theorem flagOf_zero : flagOf 0#8 = some false := rfl

@[simp] theorem flagOf_one : flagOf 1#8 = some true := rfl

theorem flagOf_eq_none {b : Byte} (h : 1 < b.toNat) : flagOf b = none := by
  unfold flagOf
  rw [if_neg, if_neg] <;> intro e <;> subst e <;> simp at h

/-- Items laid out are items read. -/
theorem readItems_itemBytes (is : List Item) (h : ∀ i ∈ is, i.amount ≤ 65535) :
    readItems is.length (itemBytes is) = some (is.map fun i => (i.channel.val, i.amount)) := by
  induction is with
  | nil => rfl
  | cons i rest ih =>
    have tail := ih fun j m => h j (List.mem_cons_of_mem _ m)
    have head := word2_byte2 i.amount (h i List.mem_cons_self)
    have c := toNat_byte i.channel.val (by omega)
    simp only [itemBytes, List.flatMap_cons, chanByte, byte1, byte2, List.cons_append, List.nil_append, List.length_cons,
      readItems] at tail ⊢
    rw [tail, head, c]
    rfl

/-- Items read have their channels. -/
theorem rawItems_map (is : List Item) : rawItems (is.map fun i => (i.channel.val, i.amount)) = some is := by
  induction is with
  | nil => rfl
  | cons i rest ih => simp [rawItems, ih, channelOf_val]

/-- Any bytes closed by their check byte check to 0. -/
theorem crcShift_xor_self (x : Byte) : crcShift 8 (x ^^^ x) = 0#8 := by
  rw [BitVec.xor_self]; decide

end Sys2Proof.Machine
end

