-- ==== Sys2Proof/Laws/Requests.lean ====
section
/-! SUPPORT. What a request row comes to: the taking of the frame, then the handling, or one refusal. -/

namespace Sys2Proof

open Machine

/-! ### The taking -/

theorem takeFrame_renewLease (s : State) (h : HostId) : (s.takeFrame h).renewLease h = taken s h := by
  unfold State.renewLease
  change (if s.attached h = true then _ else _) = _
  split <;> simp_all [taken, State.takeFrame, State.withPort, State.withSession]

theorem refuse_taken (s : State) (h : HostId) (f : Frame) (r : Reason) : (taken s h).refuse h f r = refusedWith s h f r := rfl

theorem respond_taken (s : State) (h : HostId) (f : Frame) (a : Answer) : (taken s h).respond h f a = answered s h f a := rfl

/-- A request of an attached host is handled on the state its taking leaves. -/
theorem taking_served {k : RequestKind} {s : State} {h : HostId} {f : Frame} (n : Served k s h f)
    (handle : HostId → Frame → State → State) : s.taking k handle = handle h f (taken s h) := by
  obtain ⟨⟨next, kind⟩, att⟩ := n
  have att' : (s.takeFrame h).attached h = true := att
  simp [State.taking, next, kind, State.dispatch, att', takeFrame_renewLease]

/-- A request handled in every session state is handled on the state its taking leaves. -/
theorem taking_always {k : RequestKind} {s : State} {h : HostId} {f : Frame} (n : Next k s h f)
    (always : k.servedAlways = true) (handle : HostId → Frame → State → State) :
    s.taking k handle = handle h f (taken s h) := by
  obtain ⟨next, kind⟩ := n
  simp [State.taking, next, kind, State.dispatch, always, takeFrame_renewLease]

/-- Any other request of a host that is not attached is refused. -/
theorem taking_unattached {k : RequestKind} {s : State} {h : HostId} {f : Frame} (n : Next k s h f)
    (other : k.servedAlways = false) (att : s.attached h = false) (handle : HostId → Frame → State → State) :
    s.taking k handle = refusedWith s h f .notAttached := by
  obtain ⟨next, kind⟩ := n
  have att' : (s.takeFrame h).attached h = false := att
  simp [State.taking, next, kind, State.dispatch, other, att']
  simp [refusedWith, answered, taken, att, State.refuse, State.respond, State.takeFrame, State.withOutbox, State.withPort]

/-- A row whose frame is not the next changes nothing. -/
theorem taking_otherwise {k : RequestKind} {s : State} (n : ∀ h f, ¬ Next k s h f)
    (handle : HostId → Frame → State → State) : s.taking k handle = s := by
  unfold State.taking
  split
  · rfl
  · next h f e => exact if_neg fun kind => n h f ⟨e, kind⟩

/-- A request with a body where its kind has none is refused, one without is answered. -/
theorem bodiless_eq (s : State) (h : HostId) (f : Frame) (answer : State → State) :
    s.bodiless h f answer = if f.body = [] then answer s else s.refuse h f .badValue := rfl

/-! ### What the taking leaves as it was -/

section Taken
variable (s : State) (h : HostId)

@[simp] theorem taken_pending : (taken s h).pending = s.pending := rfl
@[simp] theorem taken_now : (taken s h).now = s.now := rfl
@[simp] theorem taken_pins : (taken s h).pins = s.pins := rfl
@[simp] theorem taken_budget : (taken s h).budget = s.budget := rfl
@[simp] theorem taken_grants : (taken s h).grants = s.grants := rfl
@[simp] theorem taken_queue : (taken s h).queue = s.queue := rfl
@[simp] theorem taken_channels : (taken s h).channels = s.channels := rfl
@[simp] theorem taken_meas : (taken s h).meas = s.meas := rfl
@[simp] theorem taken_scan : (taken s h).scan = s.scan := rfl
@[simp] theorem taken_rounds : (taken s h).rounds = s.rounds := rfl
@[simp] theorem taken_tallies : (taken s h).tallies = s.tallies := rfl
@[simp] theorem taken_config : (taken s h).config = s.config := rfl
@[simp] theorem taken_proposal : (taken s h).proposal = s.proposal := rfl
@[simp] theorem taken_nextProposal : (taken s h).nextProposal = s.nextProposal := rfl
@[simp] theorem taken_outboxes : (taken s h).outboxes = s.outboxes := rfl
@[simp] theorem taken_ready : (taken s h).ready = s.ready := rfl
@[simp] theorem taken_chan (c : ChanId) : (taken s h).chan c = s.chan c := rfl
@[simp] theorem taken_slot (c : ChanId) : (taken s h).slot c = s.slot c := rfl
@[simp] theorem taken_measure (c : ChanId) : (taken s h).measure c = s.measure c := rfl
@[simp] theorem taken_settings (c : ChanId) : (taken s h).settings c = s.settings c := rfl
@[simp] theorem taken_tally (k : HostId) : (taken s h).tally k = s.tally k := rfl
@[simp] theorem taken_outbox (k : HostId) : (taken s h).outbox k = s.outbox k := rfl
@[simp] theorem taken_cap (k : HostId) : (taken s h).cap k = s.cap k := rfl
@[simp] theorem taken_hostReserved (k : HostId) : (taken s h).hostReserved k = s.hostReserved k := rfl
@[simp] theorem taken_free : (taken s h).free = s.free := rfl
@[simp] theorem taken_held : (taken s h).held = s.held := rfl
@[simp] theorem taken_holds (k : HostId) (c : ChanId) : (taken s h).holds k c = s.holds k c := rfl
@[simp] theorem taken_effectiveLimit (c : ChanId) : (taken s h).effectiveLimit c = s.effectiveLimit c := rfl
@[simp] theorem taken_admissible (e : WaitEntry) : (taken s h).admissible e = s.admissible e := rfl
@[simp] theorem taken_remaining (e : Nat) : (taken s h).remaining e = s.remaining e := rfl

/-- The taking of an attached host's frame restarts its lease and no other field of a session. -/
theorem taken_session (k : HostId) :
    (taken s h).session k =
      if k = h ∧ s.attached h = true then { s.session k with lease := some (s.now + ms s.config.leasePeriod) }
      else s.session k := by
  by_cases att : s.attached h = true <;> simp [taken, att, State.session, Table.read_upd]

@[simp] theorem taken_state (k : HostId) : ((taken s h).session k).state = (s.session k).state := by
  rw [taken_session]; split <;> rfl

@[simp] theorem taken_epoch (k : HostId) : ((taken s h).session k).epoch = (s.session k).epoch := by
  rw [taken_session]; split <;> rfl

@[simp] theorem taken_lastClose (k : HostId) : ((taken s h).session k).lastClose = (s.session k).lastClose := by
  rw [taken_session]; split <;> rfl

@[simp] theorem taken_attached (k : HostId) : (taken s h).attached k = s.attached k := by
  simp [State.attached]

@[simp] theorem taken_owns (k : HostId) (c : ChanId) : (taken s h).owns k c = s.owns k c := by
  simp [State.owns]

@[simp] theorem taken_ownerPresent (g : Grant) : (taken s h).ownerPresent g = s.ownerPresent g := by
  simp [State.ownerPresent]

theorem taken_port (k : HostId) :
    (taken s h).port k = if k = h then { s.port k with buffer := none } else s.port k := Table.read_upd ..

end Taken

/-! ### Postings -/

/-- A posting reaches an attached host and no other. -/
theorem post_outbox (s : State) (h k : HostId) (n : Notice) :
    (s.post h n).outbox k = if k = h ∧ s.attached h = true then arrive n (s.outbox k) else s.outbox k := by
  unfold State.post
  split
  · next a => simp [a, State.withOutbox_outbox]
  · next a => simp [a]

theorem broadcast_outbox (s : State) (n : Notice) (k : HostId) :
    (s.broadcast n).outbox k = if s.attached k then arrive n (s.outbox k) else s.outbox k := by
  have att (t : State) (h k : HostId) : (t.post h n).attached k = t.attached k := by unfold State.post; split <;> rfl
  have four : k = 0 ∨ k = 1 ∨ k = 2 ∨ k = 3 := by revert k; decide
  unfold State.broadcast
  rcases four with rfl | rfl | rfl | rfl <;> simp [post_outbox, att]

/-- A broadcast is what the claims call one. -/
theorem broadcast_broadcast (s : State) (n : Notice) : Broadcast n s (s.broadcast n) :=
  ⟨State.broadcast_eq .., broadcast_outbox s n⟩

/-- A broadcast is determined by the state before it. -/
theorem Broadcast.unique {n : Notice} {s t : State} (b : Broadcast n s t) : t = s.broadcast n := by
  obtain ⟨e, o⟩ := b
  obtain ⟨e', o'⟩ := broadcast_broadcast s n
  have same : t.outboxes = (s.broadcast n).outboxes := Table.ext_read fun h => (o h).trans (o' h).symm
  rw [e, e', same]

end Sys2Proof
end

