-- ==== Sys2Proof/WellFormed.lean ====
section
/-! DEFINITION. Which commands the outside can send. Hosts, channels, straps and stray bits are bounded by their types;
what is left is the code of an unknown transaction (R179). -/

namespace Sys2Proof

/-- A command the outside can send: an unknown transaction carries a code that R179 names no transaction for. -/
def Instr.wellFormed : Instr → Bool
  | .unknownTransaction _ code _ => transactionOf code == .unknown
  | .powerOn _ | .resetFall _ | .resetRelease _ | .startUpEnd _ | .deratePinChange _ | .derateHoldExpiry
  | .slotCompletion _ _ | .overdrawCountFull _ _ | .idleFaultLimit _ _
  | .rampTimerExpiry _ | .graceTimerExpiry _ | .holdoffTimerExpiry _ | .dischargeTimerExpiry _
  | .leaseExpiry _ _ | .windowTimerExpiry | .blockingTimerExpiry | .deadlineExpiry _ _
  | .status _ _ | .request _ _ _ | .peek _ _ | .take _ _
  | .unknownRequestKind | .queryPart | .attach | .detach _ | .renew | .readSession | .readBudget
  | .claim | .cancel | .readQueue | .resize | .release | .clearTrip | .readChannel | .readTally
  | .readConfig | .readProposal | .propose _ | .consent _ | .dissent | .withdraw | .outboxHeadFix _ => true

end Sys2Proof
end

