-- ==== Sys2Proof/Laws/Link.lean ====
section
/-! SUPPORT. What the edges of a transaction on a port and the completion of a slot come to, said once. -/

namespace Sys2Proof.Machine

/-! ### Transactions -/

/-- A code names no transaction exactly when it is none of R179's four. -/
theorem transactionOf_eq_unknown {code : Byte} :
    transactionOf code = .unknown ↔ code ∉ [0x00#8, 0x5A#8, 0x6C#8, 0x6D#8] := by
  simp only [transactionOf, List.mem_cons, List.not_mem_nil, or_false, not_or]
  split
  · simp_all
  · split
    · simp_all
    · split
      · simp_all
      · split <;> simp_all

/-- A command that ends a transaction is one the outside can send. -/
theorem commandAtRise_wellFormed (h : HostId) (code : Byte) (bytes : List Byte) (stray : Fin 8) :
    (commandAtRise h code bytes stray).wellFormed = true := by
  unfold commandAtRise
  split <;> simp_all [Instr.wellFormed]

/-- The fall of select changes port h alone, and nothing while a transaction is in progress there. -/
theorem State.selectFall_eq (s : State) (h : HostId) :
    s.selectFall h =
      if (s.port h).select = none then s.withPort h fun p => { p with select := some (s.begun h) } else s := by
  unfold State.selectFall
  split <;> simp_all

theorem State.selectFall_port (s : State) (h k : HostId) :
    (s.selectFall h).port k =
      if k = h ∧ (s.port h).select = none then { s.port k with select := some (s.begun h) } else s.port k := by
  rw [State.selectFall_eq]
  by_cases e : (s.port h).select = none <;> simp [e, State.withPort_port]

theorem State.selectRise_port (s : State) (h k : HostId) (bytes : List Byte) :
    (s.selectRise h bytes).port k =
      if k = h then { s.port k with select := none, fix := none, sdo := bytes } else s.port k := by
  simp [State.selectRise, State.withPort_port, Port.deselected]

/-- A transaction in progress is the port's transaction. -/
theorem State.transaction_of_select {s : State} {h : HostId} {x : Selection} (low : (s.port h).select = some x) :
    s.transaction h = x := by
  simp [State.transaction, low]

/-- With select high, the port's transaction begins here. -/
theorem State.transaction_of_high {s : State} {h : HostId} (high : (s.port h).select = none) :
    s.transaction h = s.begun h := by
  simp [State.transaction, high]

/-- A TAKE in progress at a flush or at the fall of RESET leaves the outbox as it is. -/
theorem execTake_of_spares {s : State} {h : HostId} (spares : (s.transaction h).spares = true) (n : Nat) :
    execTake h (.rise n) s = .next ((s.endFetch h n).withOutbox h id) := by
  simp [execTake, spares]; rfl

/-- The end of a PEEK or TAKE changes port h alone. -/
theorem State.endFetch_eq (s : State) (h : HostId) (n : Nat) :
    s.endFetch h n = { s with ports := (s.endFetch h n).ports } := rfl

/-- The end of a REQUEST changes port h alone. -/
theorem State.endRequest_eq (s : State) (h : HostId) (bytes : List Byte) (stray : Fin 8) :
    s.endRequest h bytes stray = { s with ports := (s.endRequest h bytes stray).ports } := rfl

/-! ### Slot completions -/

/-- The completion of the slot in progress. -/
theorem State.completeSlot_of_slot {s : State} {sc : Scan} {c : ChanId} (scan : s.scan = some sc) (slot : sc.slot = c)
    (r : Reading) :
    s.completeSlot c r = ((s.advanceScan sc).sampleEvent c (sampleOf r)).countRound c := by
  simp [State.completeSlot, scan, slot]

/-- A slot that is not in progress does not complete. -/
theorem State.completeSlot_otherwise {s : State} {c : ChanId} (other : ∀ sc, s.scan = some sc → sc.slot ≠ c) (r : Reading) :
    s.completeSlot c r = s := by
  unfold State.completeSlot
  split
  · rfl
  · next sc scan => exact if_neg (other sc scan)

/-- The counting of a round changes the count and READY alone. -/
theorem State.countRound_eq (s : State) (c : ChanId) :
    s.countRound c = { s with rounds := (s.countRound c).rounds, ready := (s.countRound c).ready } := by
  unfold State.countRound
  split
  · dsimp only
    split <;> rfl
  · rfl

end Sys2Proof.Machine
end

