-- ==== Sys2Proof/Laws/Resets.lean ====
section
/-! SUPPORT. What a change of every port or every measurement record comes to, record by record. -/

namespace Sys2Proof.Machine

theorem channel_cases (c : ChanId) : c = 0 ∨ c = 1 ∨ c = 2 ∨ c = 3 ∨ c = 4 ∨ c = 5 ∨ c = 6 ∨ c = 7 := by
  revert c; decide

theorem host_cases (h : HostId) : h = 0 ∨ h = 1 ∨ h = 2 ∨ h = 3 := by revert h; decide

theorem State.mapPorts_eq (s : State) (f : Port → Port) : s.mapPorts f = { s with ports := (s.mapPorts f).ports } := by
  simp [State.mapPorts, allHosts, State.withPort]

theorem State.mapPorts_port (s : State) (f : Port → Port) (h : HostId) : (s.mapPorts f).port h = f (s.port h) := by
  rcases host_cases h with rfl | rfl | rfl | rfl <;> simp [State.mapPorts, allHosts, State.withPort_port]

theorem State.mapMeasures_eq (s : State) (f : Measurement → Measurement) :
    s.mapMeasures f = { s with meas := (s.mapMeasures f).meas } := by
  simp [State.mapMeasures, allChannels, State.withMeasure]

theorem State.mapMeasures_measure (s : State) (f : Measurement → Measurement) (c : ChanId) :
    (s.mapMeasures f).measure c = f (s.measure c) := by
  rcases channel_cases c with rfl | rfl | rfl | rfl | rfl | rfl | rfl | rfl <;>
    simp [State.mapMeasures, allChannels, State.withMeasure_measure]

theorem State.restartRings_eq (s : State) : s.restartRings = { s with meas := s.restartRings.meas } :=
  State.mapMeasures_eq ..

theorem State.restartRings_measure (s : State) (c : ChanId) :
    s.restartRings.measure c = (s.measure c).restart s.config.averaging := State.mapMeasures_measure ..

end Sys2Proof.Machine
end

