-- ==== Sys2Proof/Tests/Slice0.lean ====
section
/-! SUPPORT. Tests of the model: worked examples and layouts of the spec, and for every statement with hypotheses a state and
operands that meet them. -/

namespace Sys2Proof.Tests

open Sys2Proof Sys2Proof.Machine

/-! ### Helpers -/

/-- The state after a command. -/
def after (i : Instr) (s : State) : State :=
  match exec i s with
  | .next t => t
  | .fault _ => s
  | .refused _ => s

/-- A grant of epoch 1 and tag 0. -/
def grant (n : Nat) (h : HostId) (priority amount : Nat) (cause : Option ReleaseCause) : Option Grant :=
  some { number := n, owner := h, epoch := 1, tag := 0#8, amount := amount, priority := priority, cause := cause }

/-- A channel in a state, its gate as R71 has it and no timer. -/
def chanIn (st : ChanState) : Channel :=
  { state := st, gate := st == .ramping || st == .on, timer := none, retries := 0, idleFaults := 0 }

/-- A part with start-up over, the clock at 10 s and every host attached in epoch 1, nothing granted. -/
def calm : State :=
  { State.reset with
    now := 40000, scan := some { slot := 0, ends := 40001 }, rounds := 8, ready := true
    sessions := Table.const 4 { state := .attached, epoch := 1, lease := some 50000, lastClose := .none } }

/-- A frame of a kind with tag 7. -/
def frame (k : RequestKind) (body : List Nat) : Frame :=
  { kind := k.code, tag := 7#8, body := body.map (BitVec.ofNat 8) }

/-- A state with one frame held, in port h. -/
def held (h : HostId) (f : Frame) (s : State) : State := s.withPort h fun p => { p with buffer := some f }

/-- A request of host h taken, the straps low. -/
def ask (h : HostId) (k : RequestKind) (body : List Nat) (s : State) : State :=
  after (requestRow 0#2 k) (held h (frame k body) s)

/-- The slot of channel c in progress, to complete 1 ms after 10 s. -/
def inSlot (c : ChanId) (s : State) : State := { s with scan := some { slot := c, ends := 40004 } }

/-- The youngest entry of outbox h. -/
def youngest (h : HostId) (s : State) : Option OutEntry := (s.outbox h).getLast?

/-- Some notices as an outbox. -/
def notes (l : List Notice) : List OutEntry := l.map OutEntry.notice

/-- A response to a frame of tag 7. -/
def reply (k : RequestKind) (a : Answer) : OutEntry := .response (k.code.truncate 7) 7#8 a

/-- A reading. -/
def reading (current output bus : Int) : Reading := { current := current, output := output, bus := bus, pg := false }

/-! ### Well-formedness -/

theorem test_unknown_transaction_with_code_of_status_is_ill_formed :
    Instr.wellFormed (.unknownTransaction 0 0x00#8 (.rise 0)) = false := by decide

theorem test_unknown_transaction_with_code_of_request_is_ill_formed :
    Instr.wellFormed (.unknownTransaction 0 0x5A#8 (.rise 0)) = false := by decide

theorem test_unknown_transaction_with_code_of_peek_or_take_is_ill_formed :
    Instr.wellFormed (.unknownTransaction 0 0x6C#8 .fall) = false ∧
      Instr.wellFormed (.unknownTransaction 0 0x6D#8 (.rise 0)) = false := by decide

theorem test_unknown_transaction_with_another_code_is_well_formed :
    Instr.wellFormed (.unknownTransaction 0 0x01#8 (.rise 0)) = true := by decide

/-! ### Layouts (section 10.7, R182, R188) -/

/-- The check byte after each byte of the CHANNEL_TRIPPED frame, as section 10.7 lists them. -/
theorem test_check_byte_runs_as_listed :
    crc [0x84#8] = 0x95#8 ∧ crc [0x84#8, 0#8] = 0xE2#8 ∧ crc [0x84#8, 0#8, 0#8] = 0xA0#8 := by decide

/-- The frame of CHANNEL_TRIPPED (3, 740, OVERDRAW, HOLDOFF, 0), byte by byte from section 10.7. -/
theorem test_channel_tripped_frame :
    OutEntry.frame (.notice (.channelTripped 3 740 .overdraw false 0)) =
      [0x84#8, 0x00#8, 0x00#8, 0x00#8, 0x06#8, 0x03#8, 0x02#8, 0xE4#8, 0x00#8, 0x00#8, 0x00#8, 0x9E#8] := by decide +kernel

/-- The body of section 10.7's CLAIM. -/
theorem test_claim_body :
    claimFields [0x04#8, 0x01#8, 0x0B#8, 0xB8#8, 0x02#8, 0x02#8, 0x05#8, 0xDC#8, 0x06#8, 0x0F#8, 0xA0#8] =
      .ok { priority := 4, waits := true, deadline := some 3000,
            items := [{ channel := 2, amount := 1500 }, { channel := 6, amount := 4000 }] } := by decide

/-- NO_BUDGET with BLOCKED is reason byte 88h (section 10.6). -/
theorem test_no_budget_blocked_is_88h : Answer.reasonByte (.refused .noBudget true) = 0x88 := by decide

/-! ### Resets, start-up, derate -/

theorem test_power_on_reads_the_straps :
    (after (.powerOn 1#2) calm).config.normal = 20000 ∧ (after (.powerOn 1#2) calm).config.derated = 14000 ∧
      (after (.powerOn 1#2) calm).budget.total = 20000 := by decide

theorem test_power_on_is_reset : after (.powerOn 0#2) State.reset = State.reset := by decide

theorem test_reset_fall_clears_ready :
    (after (.resetFall 2#2) calm).ready = false ∧ (after (.resetFall 2#2) calm).attached 0 = false ∧
      (after (.resetFall 2#2) calm).scan = none := by decide

theorem test_reset_release_begins_start_up :
    (after (.resetRelease 3#2) (after (.resetFall 2#2) calm)).scan = some { slot := 0, ends := 40001 } ∧
      (after (.resetRelease 3#2) (after (.resetFall 2#2) calm)).rounds = 0 ∧
      (after (.resetRelease 3#2) (after (.resetFall 2#2) calm)).budget.total = 48000 := by decide

/-- Start-up lasts 16 ms (R115): the last slot of its eighth round, the 64th, completes at 64 slots' time. -/
theorem test_start_up_ends_after_sixteen_ms :
    let s := { State.reset with scan := some { slot := 7, ends := 64 }, rounds := 7 }
    (after (.startUpEnd (reading 0 0 1200)) s).now = 64 ∧ (after (.startUpEnd (reading 0 0 1200)) s).ready = true := by decide

/-- Slots complete in order (R97): slot 3 does not complete while slot 0 is in progress. -/
theorem test_slots_complete_in_order : after (.slotCompletion 3 (reading 0 0 1200)) State.reset = State.reset := by decide

/-- The pulse of section 1.10: the hold timer starts at the rise, and a fall cancels it. -/
theorem test_derate_pulse_is_cancelled :
    (after (.deratePinChange true) calm).budget.derateHold = some 40040 ∧
      (after (.deratePinChange false) (after (.deratePinChange true) calm)).budget.derateHold = none := by decide

/-- Section 1.10 at the taking. -/
def derating : State :=
  { calm with
    pins := { straps := 2#2, derate := true, resetLow := false }
    budget := { total := 30000, reserved := 30000, releasing := 4000, derateTaken := false, derateHold := some 40040 }
    config := Configuration.default 2#2
    grants :=
      { slots :=
          #v[grant 11 0 5 6000 none, grant 12 1 2 4000 none, grant 13 2 2 2000 none, grant 14 0 6 5000 none,
             grant 15 1 2 1500 none, grant 16 3 1 4000 (some .released), grant 17 2 4 6000 none, grant 18 3 3 1500 none]
        admission := allChannels, nextNumber := 19, hostReserved := #v[11000, 5500, 8000, 5500] }
    queue :=
      { entries :=
          [{ host := 0, tag := 1#8, priority := 3, items := [{ channel := 4, amount := 1200 }], deadline := none,
             arrival := 0, born := 39000 }]
        headBlocking := false, blockingTimer := some 47000, nextArrival := 1 }
    channels :=
      #v[chanIn .on, chanIn .on, chanIn .holdoff, chanIn .on, chanIn .checking, chanIn .discharging, chanIn .ramping,
         chanIn .on] }

/-- The shedding of section 1.10: figures and the notices of hosts 1 and 3. -/
theorem test_derate_sheds_three_grants :
    (after .derateHoldExpiry derating).budget =
        { total := 20000, reserved := 26500, releasing := 8000, derateTaken := true, derateHold := none } ∧
      (after .derateHoldExpiry derating).outbox 1 =
        notes [.grantRevoked 4 15 .shed, .grantEnded 4 15 .shed, .grantRevoked 1 12 .shed,
          .budgetChanged 20000 26500 .derateAsserted] ∧
      (after .derateHoldExpiry derating).outbox 3 = notes [.budgetChanged 20000 26500 .derateAsserted] := by decide

/-- The first discharge of section 1.10 to end after it admits nothing. -/
theorem test_discharge_ends_with_its_cause :
    (after (.slotCompletion 5 (reading 0 0 1200)) (after .derateHoldExpiry derating |> inSlot 5)).budget.reserved = 22500 ∧
      youngest 3 (after (.slotCompletion 5 (reading 0 0 1200)) (after .derateHoldExpiry derating |> inSlot 5)) =
        some (.notice (.grantEnded 5 16 .released)) ∧
      (after (.slotCompletion 5 (reading 0 0 1200)) (after .derateHoldExpiry derating |> inSlot 5)).queue.entries.length = 1 := by decide

/-! ### The channel sequencer (section 4.18) -/

/-- Host 1's grant 740 on channel 3 in a state with so many retries used, a timer and an overdraw count. -/
def driven (st : ChanState) (retries overdraw : Nat) (timer : Option RunningTimer) : State :=
  { calm with
    budget := { calm.budget with reserved := 3000 }
    grants :=
      { slots := (Table.const 8 none).upd 3 fun _ => grant 740 1 4 3000 none
        admission := [3], nextNumber := 741, hostReserved := #v[0, 3000, 0, 0] }
    channels :=
      calm.channels.upd 3 fun _ => { chanIn st with retries := retries, timer := timer }
    meas := calm.meas.upd 3 fun m => { m with overdraw := overdraw }
    scan := some { slot := 3, ends := 40004 }
    config :=
      { calm.config with
        channels := calm.config.channels.upd 3 fun k => { k with holdoff := 500, retryLimit := 2 } } }

/-- Time 1: the output off, the gate goes on and the ramp timer runs 100 ms. -/
theorem test_checking_sample_starts_the_ramp :
    (after (.slotCompletion 3 (reading 0 0 1200)) (driven .checking 0 0 none)).chan 3 =
      { state := .ramping, gate := true, timer := some { kind := .ramp, expiry := 40404 }, retries := 0, idleFaults := 0 } := by
  decide

/-- Time 55: the count runs from 127 to full, verdict OVERDRAW. -/
theorem test_overdraw_count_full_trips :
    ((after (.overdrawCountFull 3 (reading 2834 1180 1200)) (driven .on 0 127 none)).chan 3).state = .holdoff ∧
      youngest 1 (after (.overdrawCountFull 3 (reading 2834 1180 1200)) (driven .on 0 127 none)) =
        some (.notice (.channelTripped 3 740 .overdraw false 0)) := by decide

/-- Time 1157: the ramp timer expires, holdoff 500 ms. -/
theorem test_ramp_timer_expiry_trips :
    (after (.rampTimerExpiry 3) (driven .ramping 1 0 (some { kind := .ramp, expiry := 40100 }))).chan 3 =
        { state := .holdoff, gate := false, timer := some { kind := .holdoff, expiry := 42100 }, retries := 1,
          idleFaults := 0 } ∧
      youngest 1 (after (.rampTimerExpiry 3) (driven .ramping 1 0 (some { kind := .ramp, expiry := 40100 }))) =
        some (.notice (.channelTripped 3 740 .rampTimeout false 1)) := by decide

/-- Time 1665: a severe sample with no retry left latches. -/
theorem test_severe_sample_latches :
    (after (.slotCompletion 3 (reading 31000 1180 1200))
        (driven .ramping 2 0 (some { kind := .ramp, expiry := 40400 }))).chan 3 =
      { state := .latched, gate := false, timer := none, retries := 2, idleFaults := 0 } := by decide

theorem test_grace_timer_expiry_trips :
    youngest 1 (after (.graceTimerExpiry 3) (driven .on 0 5 (some { kind := .grace, expiry := 40100 }))) =
      some (.notice (.channelTripped 3 740 .powerGoodLost false 0)) := by decide

/-- Time 1657: the second retry. -/
theorem test_holdoff_expiry_retries :
    ((after (.holdoffTimerExpiry 3) (driven .holdoff 1 0 (some { kind := .holdoff, expiry := 42000 }))).chan 3).state =
        .checking ∧
      youngest 1 (after (.holdoffTimerExpiry 3) (driven .holdoff 1 0 (some { kind := .holdoff, expiry := 42000 }))) =
        some (.notice (.channelRetry 3 740 2)) := by decide

theorem test_discharge_expiry_quarantines :
    (after (.dischargeTimerExpiry 5)
        (derating.withChannel 5 fun ch => { ch with timer := some { kind := .discharge, expiry := 40800 } })).outbox 3 =
      notes [.grantEnded 5 16 .released, .channelFaulted 5] := by decide

theorem test_eighth_idle_sample_faults :
    (after (.idleFaultLimit 6 (reading 0 500 1200)) (inSlot 6 (calm.withChannel 6 fun ch => { ch with idleFaults := 7 }))).chan 6 =
        Channel.rest .faulted ∧
      (after (.idleFaultLimit 6 (reading 0 500 1200)) (inSlot 6 (calm.withChannel 6 fun ch => { ch with idleFaults := 7 }))).outbox 2 =
        notes [.channelFaulted 6] := by decide

/-- Time 3010: OK (3, 740, retries before clear 2). -/
theorem test_clear_trip_reports_the_retries :
    youngest 1 (ask 1 .clearTrip [3] (driven .latched 2 0 none)) = some (reply .clearTrip (.clearTrip 3 740 2)) := by decide

/-! ### Measurement and tallies (sections 5.12 and 6.8) -/

/-- Sample 13 of section 5.12: host 0's channel 5 with its ring full of 1800 and its peak cleared. -/
theorem test_sample_over_the_limit_is_counted :
    let s :=
      { calm with
        grants := { calm.grants with slots := calm.grants.slots.upd 5 fun _ => grant 600 0 4 2000 none }
        channels := calm.channels.upd 5 fun _ => chanIn .on
        meas := calm.meas.upd 5 fun m => { m with ring := List.replicate 8 1800, average := 1800 }
        scan := some { slot := 5, ends := 40006 } }
    let m := (after (.slotCompletion 5 (reading 1750 1190 1200)) s).measure 5
    m.power = 2100 ∧ m.ring.sum = 14700 ∧ m.average = 1837 ∧ m.peak = 2100 ∧ m.overdraw = 8 := by decide

/-- Samples 3 and 4 of section 6.8. -/
theorem test_tally_rolls_over :
    Tally.count 3000 { accumulator := 4294965500, rollovers := 5, samples := 1000002 } =
        { accumulator := 1204, rollovers := 6, samples := 1000003 } ∧
      Tally.count (-20) { accumulator := 1204, rollovers := 6, samples := 1000003 } =
        { accumulator := 1204, rollovers := 6, samples := 1000004 } := by decide

/-- The READ_TALLY of section 6.8. -/
theorem test_read_tally_reports_then_clears :
    let s :=
      { calm with
        grants := { calm.grants with hostReserved := #v[0, 0, 3000, 0] }
        tallies := calm.tallies.upd 2 fun _ => { accumulator := 1204, rollovers := 6, samples := 1000004 } }
    (ask 2 .readTally [1] s).tally 2 = { accumulator := 0, rollovers := 0, samples := 0 } ∧
      youngest 2 (ask 2 .readTally [1] s) =
        some (reply .readTally (.readTally { accumulator := 1204, rollovers := 6, samples := 1000004 } 3000 true)) := by
  decide

/-- Section 5.12: host 3 does not hold channel 5's grant. -/
theorem test_peak_is_cleared_by_the_owner_alone :
    youngest 3 (ask 3 .readChannel [3, 1] (driven .on 0 0 none)) = some (reply .readChannel (.refused .notOwner false)) ∧
      ((ask 1 .readChannel [3, 1]
        ((driven .on 0 0 none).withMeasure 3 fun m => { m with peak := 1800 })).measure 3).peak = 0 := by decide

/-! ### Claims and the wait queue (section 3.13) -/

/-- Section 3.13 at time 0. -/
def blocked : State :=
  { calm with
    budget := { calm.budget with total := 20000, reserved := 17000, releasing := 2500 }
    config := Configuration.default 1#2
    grants :=
      { slots :=
          #v[grant 500 3 4 5000 none, grant 501 3 4 5000 none, grant 502 0 4 2500 (some .released),
             grant 503 3 4 4500 none, none, none, none, none]
        admission := [0, 1, 2, 3], nextNumber := 520, hostReserved := #v[2500, 0, 0, 14500] }
    channels :=
      #v[chanIn .on, chanIn .on, chanIn .discharging, chanIn .on, chanIn .idle, chanIn .idle, chanIn .idle, chanIn .idle]
    queue :=
      { entries :=
          [{ host := 1, tag := 7#8, priority := 5, items := [{ channel := 2, amount := 4000 }], deadline := none,
             arrival := 0, born := 30800 },
           { host := 3, tag := 20#8, priority := 3, items := [{ channel := 5, amount := 1500 }], deadline := none,
             arrival := 1, born := 32800 },
           { host := 0, tag := 3#8, priority := 3, items := [{ channel := 6, amount := 1000 }, { channel := 7, amount := 500 }],
             deadline := some 1000, arrival := 2, born := 36400 }]
        headBlocking := true, blockingTimer := none, nextArrival := 3 } }

/-- Time 0: NO_WAIT behind the blocking head, REFUSED NO_BUDGET BLOCKED. -/
theorem test_claim_behind_a_blocking_head :
    youngest 2 (ask 2 .claim [4, 0, 0, 0, 1, 4, 3, 232] blocked) = some (reply .claim (.refused .noBudget true)) ∧
      (ask 2 .claim [4, 0, 0, 0, 1, 4, 3, 232] blocked).queue = blocked.queue := by decide

/-- Time 5: NO_WAIT ahead of the head, admitted as grant 520. -/
theorem test_claim_ahead_of_a_blocking_head :
    youngest 2 (ask 2 .claim [6, 0, 0, 0, 1, 4, 3, 232] blocked) = some (reply .claim (.claimAdmitted [520])) ∧
      (ask 2 .claim [6, 0, 0, 0, 1, 4, 3, 232] blocked).budget.reserved = 18000 ∧
      (ask 2 .claim [6, 0, 0, 0, 1, 4, 3, 232] blocked).queue.headBlocking = true := by decide

/-- Time 100: E3's deadline. -/
theorem test_deadline_expiry_fails_the_entry :
    (after (.deadlineExpiry 0 3#8) blocked).outbox 0 = notes [.claimFailed 3#8 .expired] ∧
      (after (.deadlineExpiry 0 3#8) blocked).now = 40400 ∧
      (after (.deadlineExpiry 0 3#8) blocked).queue.entries.length = 2 := by decide

/-- With E1 cancelled, E2 and E3 fit the 3000 free, and E2's notice names grant 520. -/
theorem test_cancel_of_the_head_lets_the_rest_in :
    (held 1 { frame .cancel [7] with tag := 9#8 } blocked |> after .cancel).outbox 3 = notes [.claimAdmitted 20#8 [520]] ∧
      (held 1 { frame .cancel [7] with tag := 9#8 } blocked |> after .cancel).outbox 0 =
        notes [.claimAdmitted 3#8 [521, 522]] := by decide

theorem test_read_queue_positions :
    youngest 0 (ask 0 .readQueue [] blocked) =
      some (reply .readQueue (.readQueue 3
        [{ tag := 3#8, position := 3, priority := 3, blocking := false, arrival := 2, age := 900, remaining := 100,
           items := [{ channel := 6, amount := 1000 }, { channel := 7, amount := 500 }] }])) := by decide +kernel

theorem test_blocking_timer_expiry_blocks :
    (after .blockingTimerExpiry derating).queue.headBlocking = true ∧ (after .blockingTimerExpiry derating).now = 47000 := by
  decide

/-! ### Grants -/

theorem test_resize_up_is_stopped_by_the_free_budget :
    youngest 1 (ask 1 .resize [3, 23, 112] ((driven .on 0 0 none).withTotal 5000)) =
      some (reply .resize (.refused .noBudget false)) := by decide

theorem test_resize_down_lowers_the_totals :
    (ask 1 .resize [3, 3, 232] (driven .on 0 0 none)).budget.reserved = 1000 ∧
      youngest 1 (ask 1 .resize [3, 3, 232] (driven .on 0 0 none)) = some (reply .resize (.resize 3 740 1000 1000)) := by
  decide +kernel

theorem test_release_of_an_on_channel_discharges :
    (ask 1 .release [3] (driven .on 0 9 none)).chan 3 =
        { state := .discharging, gate := false, timer := some { kind := .discharge, expiry := 40800 }, retries := 0,
          idleFaults := 0 } ∧
      (ask 1 .release [3] (driven .on 0 9 none)).budget.releasing = 3000 := by decide

theorem test_release_of_a_latched_channel_ends_the_grant :
    (ask 1 .release [3] (driven .latched 2 0 none)).outbox 1 =
      notes [.grantEnded 3 740 .released] ++ [reply .release (.release 3 740 .ended)] := by decide

/-- The figures of section 1.10 before the derate. -/
theorem test_read_budget_reports_the_figures :
    youngest 0 (ask 0 .readBudget [] derating) =
      some (reply .readBudget (.readBudget
        { normal := 30000, derated := 20000, asserted := false, total := 30000, reserved := 30000, releasing := 4000,
          free := 0, waiting := 1, headBlocking := false })) := by decide

/-! ### Sessions (section 7.11) -/

/-- Time 7300: epoch 4, last close cause EXPIRED, the lease to 5000 ms on. -/
theorem test_attach_opens_the_next_epoch :
    let s := calm.withSession 1 fun _ => { state := .detached, epoch := 3, lease := none, lastClose := .expired }
    (ask 1 .attach [] s).session 1 = { state := .attached, epoch := 4, lease := some 60000, lastClose := .expired } ∧
      youngest 1 (ask 1 .attach [] s) = some (reply .attach (.attach 4 5000 .expired)) := by decide

/-- Time 7080: ATTACH in CLOSING. -/
theorem test_attach_in_closing_is_busy :
    let s := calm.withSession 1 fun _ => { state := .closing, epoch := 3, lease := none, lastClose := .expired }
    youngest 1 (ask 1 .attach [] s) = some (reply .attach (.refused .busy false)) := by decide

theorem test_detach_leaves_its_response_alone :
    (ask 1 .detach [] ((driven .on 0 0 none).post 1 (.channelFaulted 6))).outbox 1 =
      [reply .detach (.detach 1 .closing 1)] := by decide

theorem test_renew_restarts_the_lease :
    ((ask 2 .renew [] calm).session 2).lease = some 60000 ∧
      youngest 2 (ask 2 .renew [] calm) = some (reply .renew (.renew 5000)) := by decide

theorem test_read_session_reports_the_time_left :
    youngest 2 (ask 2 .readSession [] calm) = some (reply .readSession (.readSession 1 5000 2500)) := by decide

/-! ### Consent (section 8.7) -/

/-- The proposal of section 8.7 with some consents. -/
def proposal87 (consents : HostSet) : Proposal :=
  { id := 14, proposer := 0, change := .setBudget 26000 18000, electorate := Table.const 4 true, consents := consents,
    window := 52000 }

/-- Section 8.7 at time 0, with no proposal or the one given. -/
def agreed (p : Option Proposal) : State :=
  { calm with
    budget := { calm.budget with total := 20000, reserved := 18000 }
    config := Configuration.default 1#2
    pins := { calm.pins with straps := 1#2 }
    grants :=
      { slots := #v[grant 880 0 5 6000 none, grant 881 1 4 5000 none, none, none, grant 885 2 4 4000 none, none, none,
          grant 890 3 2 3000 none]
        admission := [0, 1, 4, 7], nextNumber := 902, hostReserved := #v[6000, 5000, 4000, 3000] }
    channels :=
      #v[chanIn .on, chanIn .on, chanIn .idle, chanIn .idle, chanIn .on, chanIn .idle, chanIn .idle, chanIn .on]
    queue :=
      { entries :=
          [{ host := 1, tag := 12#8, priority := 3, items := [{ channel := 2, amount := 5000 }], deadline := none,
             arrival := 0, born := 38400 }]
        headBlocking := false, blockingTimer := some 46400, nextArrival := 1 }
    sessions := calm.sessions.upd 3 fun r => { r with lease := some 47200 }
    proposal := p
    nextProposal := if p.isSome then 15 else 14 }

/-- Time 0: PROPOSE SET_BUDGET, normal 26000, derated 18000. -/
theorem test_propose_opens_the_proposal :
    (ask 0 .propose [0, 101, 144, 70, 80] (agreed none)).proposal = some (proposal87 #v[true, false, false, false]) ∧
      (ask 0 .propose [0, 101, 144, 70, 80] (agreed none)).nextProposal = 15 ∧
      (ask 0 .propose [0, 101, 144, 70, 80] (agreed none)).outbox 2 =
        notes [.proposalOpened 14 0 (.setBudget 26000 18000)] := by decide

/-- Time 900: a consent that leaves host 3 lacking. -/
theorem test_consent_is_recorded :
    youngest 2 (ask 2 .consent [14] (agreed (some (proposal87 #v[true, true, false, false])))) =
        some (reply .consent (.consent 14 .opened)) ∧
      (ask 2 .consent [14] (agreed (some (proposal87 #v[true, true, false, false])))).proposal =
        some (proposal87 #v[true, true, true, false]) := by decide

/-- Time 1200: window remaining 1800. -/
theorem test_read_proposal_reports_the_window :
    youngest 0 (ask 0 .readProposal [] { agreed (some (proposal87 #v[true, true, true, false])) with now := 44800 }) =
      some (reply .readProposal (.readProposal (some
        { id := 14, proposer := 0, change := .setBudget 26000 18000, electorate := #v[true, true, true, true],
          consents := #v[true, true, true, false], remaining := 1800 }))) := by decide

/-- Time 1800: host 3's lease expires and the proposal is adopted by it. -/
theorem test_lease_expiry_adopts_the_proposal :
    let t := after (.leaseExpiry 3) (agreed (some (proposal87 #v[true, true, true, false])))
    t.budget = { total := 26000, reserved := 23000, releasing := 3000, derateTaken := false, derateHold := none } ∧
      t.outbox 1 = notes [.budgetChanged 26000 18000 .config, .claimAdmitted 12#8 [902], .proposalClosed 14 .adopted none] ∧
      t.outbox 3 = [] ∧ (t.session 3).state = .closing ∧ t.grants.nextNumber = 903 := by decide

/-- Had the window expired first: PROPOSAL_CLOSED (14, EXPIRED, NONE), the levels as they were. -/
theorem test_window_expiry_changes_no_level :
    (after .windowTimerExpiry (agreed (some (proposal87 #v[true, true, true, false])))).outbox 3 =
        notes [.proposalClosed 14 .expired none] ∧
      (after .windowTimerExpiry (agreed (some (proposal87 #v[true, true, true, false])))).budget.total = 20000 := by decide

theorem test_dissent_closes_rejected :
    (ask 2 .dissent [14] (agreed (some (proposal87 #v[true, false, false, false])))).outbox 2 =
      notes [.proposalClosed 14 .rejected (some 2)] ++ [reply .dissent (.dissent 14)] := by decide

theorem test_withdraw_is_the_proposers :
    youngest 2 (ask 2 .withdraw [14] (agreed (some (proposal87 #v[true, false, false, false])))) =
        some (reply .withdraw (.refused .notOwner false)) ∧
      (ask 0 .withdraw [14] (agreed (some (proposal87 #v[true, false, false, false])))).proposal = none := by decide

/-- RESET_PART of a host alone reads the straps as they stand at its adoption (R2, R165), here 48000 and 32000. -/
theorem test_reset_part_reads_the_straps :
    let alone := { calm with sessions := State.reset.sessions.upd 0 fun _ => calm.session 0 }
    let t := after (.propose 3#2) (held 0 (frame .propose [9]) alone)
    t.budget.total = 48000 ∧ t.config.derated = 32000 ∧ t.pins.straps = 3#2 := by decide

theorem test_read_config_reports_a_channel :
    youngest 0 (ask 0 .readConfig [1, 3] (driven .on 0 0 none)) =
      some (reply .readConfig (.readChannelConfig 3
        { ceiling := 6000, rampWindow := 100, holdoff := 500, retryLimit := 2, pgInput := false })) := by decide

/-! ### Outboxes and the link (section 9.11) -/

/-- Host 2's outbox in section 9.11, with the READ_BUDGET response shortened to a refusal. -/
def full : List OutEntry :=
  notes [.channelOn 2 410, .channelTripped 2 410 .overdraw false 0, .channelRetry 2 410 1] ++
    [.response 0x10#7 5#8 (.refused .badValue false), .notice (.channelOn 2 410)]

/-- GRANT_REVOKED makes a marker of the youngest notice, BUDGET_CHANGED counts into it. -/
theorem test_notice_overflow_marks_and_counts :
    arrive (.budgetChanged 1 1 .config) (arrive (.grantRevoked 2 410 .shed) full) =
      notes [.channelOn 2 410, .channelTripped 2 410 .overdraw false 0, .channelRetry 2 410 1] ++
        [.response 0x10#7 5#8 (.refused .badValue false), .notice (.noticesLost 3)] := by decide

/-- The marker counts 5 while its frame with count 4 is clocked: 1 is left. -/
theorem test_take_reduces_the_marker :
    (after (.take 2 (.rise 7))
      (((after (.outboxHeadFix 2) (calm.withOutbox 2 fun _ => notes [.noticesLost 4]))).post 2 (.channelFaulted 5))).outbox 2 =
      notes [.noticesLost 1] := by decide

theorem test_take_cut_short_removes_nothing :
    (after (.take 2 (.rise 6)) (after (.outboxHeadFix 2) (calm.withOutbox 2 fun _ => notes [.noticesLost 4]))).outbox 2 =
      notes [.noticesLost 4] := by decide

/-- The EMPTY frame behind a status byte with READY 1 (R188). -/
theorem test_peek_of_an_empty_outbox :
    ((after (.peek 1 (.rise 6)) calm).port 1).sdo = [0x80#8, 0xFF#8, 0#8, 0#8, 0#8, 0#8, 0x39#8] := by decide

/-- Its head is fixed after the fall, its frame clocked out whole (R190). -/
theorem test_reset_fall_spares_from_a_take_begun_before_it :
    let s := (after (.resetFall 0#2) (after (.take 2 .fall) calm)).withOutbox 2 fun _ => notes [.channelFaulted 5]
    (after (.take 2 (.rise 7)) (after (.outboxHeadFix 2) s)).outbox 2 = notes [.channelFaulted 5] := by decide

theorem test_outbox_head_fix_holds_the_head :
    ((after (.outboxHeadFix 2) (calm.withOutbox 2 fun _ => notes [.channelFaulted 5])).port 2).fix =
      some { entry := some (.notice (.channelFaulted 5)) } := by decide

theorem test_status_byte : ((after (.status 1 (.rise 8)) (calm.post 1 (.channelFaulted 5))).port 1).sdo = [0x81#8] := by decide

/-- The status byte is composed at the fall of select (R180): an entry that joins after it is not counted in it. -/
theorem test_status_byte_is_composed_at_the_fall :
    ((after (.peek 1 (.rise 0)) ((after (.peek 1 .fall) calm).post 1 (.channelFaulted 5))).port 1).sdo = [0x80#8] := by decide

/-- The codes of section 10.1, and the command each ends as (R179). -/
theorem test_codes_name_their_transactions :
    commandAtRise 2 0x00#8 [0#8] 3 = .status 2 (.rise 19) ∧ commandAtRise 2 0x5A#8 [4#8] 3 = .request 2 (.rise [4#8]) 3 ∧
      commandAtRise 2 0x6C#8 [0#8] 3 = .peek 2 (.rise 1) ∧ commandAtRise 2 0x6D#8 [0#8] 3 = .take 2 (.rise 1) ∧
      commandAtRise 2 0x6E#8 [0#8] 3 = .unknownTransaction 2 0x6E#8 (.rise 1) := by decide

theorem test_status_cut_short_has_no_effect : after (.status 1 (.rise 7)) calm = calm := by decide

theorem test_unknown_transaction_acts_as_status :
    ((after (.unknownTransaction 1 0x33#8 (.rise 2)) calm).port 1).sdo = [0x80#8, 0#8, 0#8] := by decide

/-- A RENEW frame of tag 0 with no body; its check byte is the CRC of 04h 00h 00h. -/
theorem test_request_is_accepted :
    ((after (.request 1 (.rise (closed [0x04#8, 0#8, 0#8])) 0) calm).port 1).buffer = some { kind := 4#8, tag := 0#8, body := [] } ∧
      ((after (.request 1 (.rise (closed [0x04#8, 0#8, 0#8])) 0) calm).port 1).result = .accepted := by decide +kernel

theorem test_request_with_a_wrong_length_is_malformed :
    ((after (.request 1 (.rise [0x04#8, 0#8, 1#8, 0#8]) 0) calm).port 1).result = .malformed := by decide

theorem test_unknown_request_kind_is_refused :
    youngest 1 (after .unknownRequestKind (held 1 { kind := 0x77#8, tag := 7#8, body := [] } calm)) =
      some (.response 0x77#7 7#8 (.refused .badRequest false)) := by decide

/-- Part code 0D84h, revision 1, 4 hosts, 8 channels, the port (R187), before any ATTACH. -/
theorem test_query_part_body :
    youngest 2 (ask 2 .queryPart [] { State.reset with ready := true }) = some (reply .queryPart (.queryPart 2)) ∧
      Answer.bytes (.queryPart 2) = [0x0D#8, 0x84#8, 1#8, 4#8, 8#8, 2#8] := by decide

theorem test_other_requests_need_a_session :
    youngest 2 (ask 2 .renew [] { State.reset with ready := true }) = some (reply .renew (.refused .notAttached false)) := by
  decide

theorem test_no_word_spells_a_command : decodeTableWord 8 0 = none ∧ State.reset.withFetchWord 8 0 = State.reset := by decide

/-! ### Witnesses: states and operands that meet the hypotheses of the statements, clause by clause -/

/-- Every field of calm's blocks at work: section 8.7 with its proposal open, a marker in outbox 2, and host 3's lease expiry
in front. -/
def busy : State :=
  { agreed (some (proposal87 #v[true, true, true, false])) with
    pending := [.leaseExpiry 3]
    outboxes := calm.outboxes.upd 2 fun _ => notes [.channelFaulted 5, .noticesLost 4] }

/-- RESET held low, with its release in front. -/
def low : State := { after (.resetFall 1#2) calm with pending := [.resetRelease 1#2] }

theorem witness_StepRunsTheFrontCommand : State.reset.pending = [] := rfl

theorem witness_EveryRunGivesAStateAndCommandsLeaveTheQueue : exec (.leaseExpiry 3) busy = .next (after (.leaseExpiry 3) busy) := rfl

theorem witness_PowerOnAndReleaseStartEveryBlockAfresh : low.pins.resetLow = true := by decide

theorem witness_ResetFallEmptiesEveryBlock : busy.pins.resetLow = false := by decide

theorem witness_HeldLowAndStartUpLawsKept :
    HeldLowLaw low ∧ low.pins.resetLow = true ∧ StartUpLaw low ∧ ∃ t, step low = .next t := by
  refine ⟨?_, by decide, ?_, _, rfl⟩
  · unfold HeldLowLaw; decide
  · unfold StartUpLaw; decide

/-- The last slot of start-up; slot 7 a round earlier and in operation; and another slot. -/
theorem witness_StartUpEndsWithTheEighthRound :
    let s := fun (c : ChanId) (n : Nat) => { inSlot c State.reset with rounds := n }
    (s 7 7).scan = some { slot := 7, ends := 40004 } ∧ (s 7 7).rounds = 7 ∧ ¬ ((7 : ChanId) = 7 ∧ (s 7 6).rounds = 7) ∧
      ¬ ((7 : ChanId) = 7 ∧ (s 7 8).rounds = 7) ∧ (s 6 7).scan = some { slot := 6, ends := 40004 } := by decide

theorem witness_DeratePinStartsAndCancelsTheHold : false = calm.pins.derate ∧ true ≠ calm.pins.derate := by decide

/-- An equal total, a lower one within the held total, and a higher one. -/
theorem witness_DerateTakingRecomputesTheTotal_without_shedding :
    let hold := fun (s : State) => { s with budget := { s.budget with derateHold := some 40040 } }
    let equal := hold { calm with config := { calm.config with derated := 12000 } }
    (equal.budget.derateHold = some 40040 ∧ equal.config.derated = equal.budget.total) ∧
      ((hold calm).config.derated < (hold calm).budget.total ∧ (hold calm).held ≤ (hold calm).config.derated) ∧
      ((hold { calm with budget := { calm.budget with total := 8000, derateTaken := true } }).budget.total <
        (hold { calm with budget := { calm.budget with total := 8000, derateTaken := true } }).config.normal) := by decide

theorem witness_DerateTakingRecomputesTheTotal_with_shedding :
    derating.budget.derateHold = some 40040 ∧ derating.config.derated < derating.budget.total ∧
      derating.config.derated < derating.held ∧ TableLaw derating ∧ AccountLaw derating ∧ PositiveLaw derating := by
  unfold TableLaw SlotLaw AdmissionLaw ItemsLaw AccountLaw PositiveLaw; decide

/-- The choice of section 1.10; none among DISCHARGING channels; a held total within the total, and one above it. -/
theorem witness_SheddingTakesLowestPriorityThenYoungest :
    derating.shedChoice derating.grants.admission = some (4, 2) ∧ derating.shedChoice [5] = none ∧
      derating.held ≤ derating.budget.total ∧ (derating.withTotal 20000).budget.total < (derating.withTotal 20000).held ∧
      (derating.withTotal 20000).shedChoice (derating.withTotal 20000).grants.admission = some (4, 2) ∧
      calm.shedChoice calm.grants.admission = none := by decide

theorem witness_BudgetLawKept : BudgetLaw busy ∧ ∃ t, step busy = .next t := by
  refine ⟨?_, _, rfl⟩
  unfold BudgetLaw TableLaw SlotLaw AdmissionLaw ItemsLaw AccountLaw PositiveLaw WithinTotal; decide

theorem witness_GrantTableLawsKept : TableLaw busy ∧ NumberLaw busy ∧ ∃ t, step busy = .next t := by
  refine ⟨by unfold TableLaw SlotLaw AdmissionLaw ItemsLaw; decide, ⟨by decide, ?_, ?_⟩, _, rfl⟩
  · have all : ∀ c, ∀ g ∈ busy.slot c, 1 ≤ g.number ∧ g.number ≤ Config.grantNumberMax := by decide
    exact fun c g h => all c g h
  · have all : ∀ c d, ∀ g ∈ busy.slot c, ∀ k ∈ busy.slot d, g.number = k.number → c = d := by decide
    exact fun c d g k h j => all c d g h k j

theorem witness_SessionLawsKept : OwnershipLaw busy ∧ LeaseLaw busy ∧ ∃ t, step busy = .next t := by
  refine ⟨⟨by unfold TableLaw SlotLaw AdmissionLaw ItemsLaw; decide, ?_, by decide⟩, by unfold LeaseLaw; decide, _, rfl⟩
  have all : ∀ c, ∀ g ∈ busy.slot c, (busy.chan c).state ≠ .discharging → busy.ownerPresent g = true := by decide
  exact fun c g h => all c g h

/-! Grants -/

/-- Host 1's RESIZE of channel 3 in hand, over its grant of 3000. -/
def resizing (s : State) (hi lo : Nat) : State := held 1 (frame .resize [3, hi, lo]) s

/-- To 6000, the ceiling: over the cap; over the free budget; fitting exactly. -/
theorem witness_ResizeUpIsJudgedAgainstCapFreeAndHead :
    let s := driven .on 0 0 none
    let capped := resizing { s with config := { s.config with caps := Table.const 4 5999 } } 23 112
    let tight := resizing (s.withTotal 5999) 23 112
    let fits := resizing (s.withTotal 6000) 23 112
    (Served .resize capped 1 (frame .resize [3, 23, 112]) ∧ capped.slot 3 = grant 740 1 4 3000 none ∧
        capped.owns 1 3 = true ∧ (capped.chan 3).state ≠ .discharging ∧ 6000 ≤ (capped.settings 3).ceiling ∧
        capped.cap 1 < capped.hostReserved 1 + (6000 - 3000)) ∧
      (Served .resize tight 1 (frame .resize [3, 23, 112]) ∧ tight.hostReserved 1 + (6000 - 3000) ≤ tight.cap 1 ∧
        tight.free < 6000 - 3000) ∧
      (Served .resize fits 1 (frame .resize [3, 23, 112]) ∧ fits.hostReserved 1 + (6000 - 3000) ≤ fits.cap 1 ∧
        6000 - 3000 ≤ fits.free ∧ fits.queue.headBlocking = false) := by decide

/-- To the present amount, and to 1. -/
theorem witness_ResizeDownLowersAndScans :
    let s := resizing (driven .on 0 0 none) 11 184
    let t := resizing (driven .on 0 0 none) 0 1
    (Served .resize s 1 (frame .resize [3, 11, 184]) ∧ s.slot 3 = grant 740 1 4 3000 none ∧ s.owns 1 3 = true ∧
        (s.chan 3).state ≠ .discharging ∧ 11 * 256 + 184 = 3000 ∧ 3000 ≤ (s.settings 3).ceiling) ∧
      (Served .resize t 1 (frame .resize [3, 0, 1]) ∧ t.owns 1 3 = true ∧ (t.chan 3).state ≠ .discharging) := by decide

theorem witness_ResizeAndReleaseRefusalsInOrder_of_resize :
    let s := fun (st : ChanState) (body : List Nat) => held 1 (frame .resize body) (driven st 0 0 none)
    Served .resize (s .on [3, 0]) 1 (frame .resize [3, 0]) ∧ Served .resize (s .on [8, 0, 1]) 1 (frame .resize [8, 0, 1]) ∧
      (s .on [2, 0, 1]).owns 1 2 = false ∧
      ((s .discharging [3, 0, 1]).owns 1 3 = true ∧ ((s .discharging [3, 0, 1]).chan 3).state = .discharging) ∧
      (Served .resize (s .on [3, 0, 0]) 1 (frame .resize [3, 0, 0]) ∧ (s .on [3, 0, 0]).owns 1 3 = true) ∧
      (Served .resize (s .on [3, 156, 65]) 1 (frame .resize [3, 156, 65]) ∧ 40000 < 156 * 256 + 65) ∧
      (Served .resize (s .on [3, 23, 113]) 1 (frame .resize [3, 23, 113]) ∧
        ((s .on [3, 23, 113]).settings 3).ceiling < 23 * 256 + 113) := by decide

theorem witness_ResizeAndReleaseRefusalsInOrder_of_release :
    let s := fun (st : ChanState) (body : List Nat) => held 1 (frame .release body) (driven st 0 0 none)
    Served .release (s .on []) 1 (frame .release []) ∧ Served .release (s .on [8]) 1 (frame .release [8]) ∧
      (Served .release (s .on [7]) 1 (frame .release [7]) ∧ (s .on [7]).owns 1 7 = false) ∧
      (Served .release (s .discharging [3]) 1 (frame .release [3]) ∧ (s .discharging [3]).owns 1 3 = true ∧
        ((s .discharging [3]).chan 3).state = .discharging) := by decide

theorem witness_ReleaseEndsOrDischargesTheGrant :
    let s := fun (st : ChanState) => held 1 (frame .release [3]) (driven st 0 0 none)
    (Served .release (s .ramping) 1 (frame .release [3]) ∧ (s .ramping).slot 3 = grant 740 1 4 3000 none ∧
        (s .ramping).owns 1 3 = true ∧ ((s .ramping).chan 3).state = .ramping) ∧
      (Served .release (s .latched) 1 (frame .release [3]) ∧ (s .latched).slot 3 = grant 740 1 4 3000 none ∧
        (s .latched).owns 1 3 = true ∧ ((s .latched).chan 3).state = .latched) ∧
      ((driven .discharging 0 0 none).slot 3 = grant 740 1 4 3000 none ∧
        ((driven .discharging 0 0 none).chan 3).state = .discharging) := by decide

/-! Claims and the wait queue -/

/-- The claim of section 10.7. -/
def claim107 : Claim :=
  { priority := 4, waits := true, deadline := some 3000,
    items := [{ channel := 2, amount := 1500 }, { channel := 6, amount := 4000 }] }

/-- Its body, with the wait mode as given. -/
def body107 (mode : Nat) : List Nat := [4, mode, 11, 184, 2, 2, 5, 220, 6, 15, 160]

/-- With the counter at 1; and at 65535 while an older grant holds number 1, where the numbers issued are 65535 and 2. -/
theorem witness_AdmissibleClaimIsAdmittedAtOnce :
    let Meets := fun (s : State) =>
      Served .claim s 1 (frame .claim (body107 1)) ∧ claimFields (frame .claim (body107 1)).body = .ok claim107 ∧
        s.claimRefusal 1 7#8 claim107 = none ∧ s.queue.entries = [] ∧ s.channelsFree claim107.items = true ∧
        5500 ≤ s.free ∧ s.hostReserved 1 + 5500 ≤ s.cap 1
    let older := (driven .on 0 0 none).withSlot 3 fun _ => grant 1 2 4 3000 none
    let last := held 1 (frame .claim (body107 1)) (older.withNextNumber 65535)
    Meets (held 1 (frame .claim (body107 1)) calm) ∧ Meets last ∧
      (after .claim last).heldNumbers = [65535, 1, 2] ∧ (after .claim last).grants.nextNumber = 3 := by decide

theorem witness_WaitClaimIsAdmittedOrQueued :
    let s := held 2 (frame .claim (body107 1)) blocked
    Served .claim s 2 (frame .claim (body107 1)) ∧ s.claimRefusal 2 7#8 claim107 = none ∧ claim107.waits = true ∧
      s.queue.entries.length < 12 ∧ s.queue.entries.countP (·.host == 2) < 4 := by decide

/-- In an empty queue with too little free; behind the blocking head of section 3.13; and in a queue whose head has not waited
long enough to block, examined and passed over. -/
theorem witness_NoWaitClaimThatDoesNotFitIsRefused :
    let cl := { claim107 with waits := false, deadline := none }
    let s := held 1 (frame .claim (body107 0)) (calm.withTotal 5499)
    let t := held 2 (frame .claim (body107 0)) blocked
    (Served .claim s 1 (frame .claim (body107 0)) ∧ claimFields (frame .claim (body107 0)).body = .ok cl ∧
        s.claimRefusal 1 7#8 cl = none ∧ s.queue.entries = [] ∧ s.admissible (s.entryFor 1 7#8 cl 0) = false) ∧
      (Served .claim t 2 (frame .claim (body107 0)) ∧ t.claimRefusal 2 7#8 cl = none ∧ t.queue.headBlocking = true ∧
        (∃ head ∈ t.queue.entries.head?, t.admissible head = false ∧ cl.priority ≤ head.priority) ∧
        (State.scanFor 2 7#8 (State.place (t.entryFor 2 7#8 cl 0) (taken t 2))).2 = .unseen) ∧
      (let u := held 2 (frame .claim (body107 0)) { blocked with queue := { blocked.queue with headBlocking := false } }
       Served .claim u 2 (frame .claim (body107 0)) ∧ u.claimRefusal 2 7#8 cl = none ∧
        (State.scanFor 2 7#8 (State.place (u.entryFor 2 7#8 cl 0) (taken u 2))).2 = .passedOver) := by decide

/-- Each line of R44 and R45, the last with four entries of the host. -/
theorem witness_ClaimRefusalsInOrder :
    let s := held 1 (frame .claim (body107 1)) calm
    let low := { s with config := { s.config with channels := s.config.channels.upd 6 fun k => { k with ceiling := 3999 } } }
    let faulted := s.withChannel 6 fun ch => { ch with state := .faulted }
    let holding := s.withSlot 6 fun _ => grant 1 1 4 100 none
    let entry : WaitEntry := { host := 1, tag := 9#8, priority := 4, items := [{ channel := 5, amount := 1 }], deadline := none, arrival := 0, born := 0 }
    let tagged := s.setEntries [{ entry with tag := 7#8 }]
    let capped := { s with config := { s.config with caps := Table.const 4 5499 } }
    let full := s.setEntries [entry, { entry with tag := 10#8 }, { entry with tag := 11#8 }, { entry with tag := 12#8 }]
    claimFields [] = .error .badValue ∧ claimFields (frame .claim [4, 1, 0, 0, 1, 8, 0, 1]).body = .error .badChannel ∧
      claimFields (frame .claim [4, 1, 0, 0, 2, 9, 0, 1, 9, 0, 1]).body = .error .badValue ∧
      claimFields (frame .claim [8, 1, 0, 0, 1, 7, 0, 1]).body = .error .badValue ∧
      claimFields (frame .claim [7, 1, 0, 0, 1, 7, 156, 65]).body = .error .badValue ∧
      claimFields (frame .claim (body107 1)).body = .ok claim107 ∧
      (Served .claim low 1 (frame .claim (body107 1)) ∧ low.claimRefusal 1 7#8 claim107 = some .overCeiling) ∧
      (Served .claim faulted 1 (frame .claim (body107 1)) ∧ faulted.claimRefusal 1 7#8 claim107 = some .channelFaulted) ∧
      (Served .claim holding 1 (frame .claim (body107 1)) ∧ holding.claimRefusal 1 7#8 claim107 = some .alreadyHeld) ∧
      (Served .claim tagged 1 (frame .claim (body107 1)) ∧ tagged.claimRefusal 1 7#8 claim107 = some .duplicate) ∧
      (Served .claim capped 1 (frame .claim (body107 1)) ∧ capped.claimRefusal 1 7#8 claim107 = some .overHostCap) ∧
      (Served .claim full 1 (frame .claim (body107 1)) ∧ full.claimRefusal 1 7#8 claim107 = none ∧
        4 ≤ full.queue.entries.countP (·.host == 1)) := by decide

theorem witness_ClaimBodyReadsBack :
    claim107.priority ≤ 7 ∧ 1 ≤ claim107.items.length ∧ claim107.items.length ≤ 4 ∧
      (claim107.items.map Item.channel).Nodup ∧ (∀ i ∈ claim107.items, 1 ≤ i.amount ∧ i.amount ≤ 40000) ∧
      ∀ d ∈ claim107.deadline, 1 ≤ d ∧ d ≤ 65535 ∧ claim107.waits = true := by decide

/-- A blocking head; a head passed over and another left; and an admissible head. -/
theorem witness_ScanLeavesNothingAdmissibleBehind :
    let free := derating.withChannel 4 (fun _ => Channel.rest .idle) |>.withSlot 4 (fun _ => none) |>.withTotal 40000
    blocked.scanQueue.queue.headBlocking = true ∧ derating.scanQueue.queue.headBlocking = false ∧
      derating.scanQueue.queue.entries.head?.isSome = true ∧
      (∃ head ∈ blocked.queue.entries.head?, blocked.admissible head = false) ∧
      ∃ head ∈ free.queue.entries.head?, free.admissible head = true ∧ (head.items.map Item.channel).Nodup := by decide

theorem witness_QueueAndBlockingLawsKept :
    QueueLaw busy ∧ BlockingLaw busy ∧ NamingLaw busy ∧ NamingLaw blocked ∧ ∃ t, step busy = .next t := by
  refine ⟨by unfold QueueLaw; decide, ?_, by unfold NamingLaw; decide, by unfold NamingLaw; decide, _, rfl⟩
  exact .inr ⟨by decide, by decide⟩

theorem witness_QueueTimersExpire :
    derating.queue.blockingTimer = some 47000 ∧
      ∃ e ∈ blocked.entryOf 0 3#8, e.deadline = some 1000 ∧ blocked.attached 0 = true := by decide

theorem witness_CancelRemovesTheEntry :
    (Served .cancel (held 1 (frame .cancel []) blocked) 1 (frame .cancel [])) ∧
      (Served .cancel (held 1 (frame .cancel [8]) blocked) 1 (frame .cancel [8]) ∧
        ∀ e ∈ blocked.queue.entries, e.host = 1 → e.tag ≠ 8#8) ∧
      (Served .cancel (held 0 (frame .cancel [3]) blocked) 0 (frame .cancel [3]) ∧
        ∃ e ∈ blocked.queue.entries, e.host = 0 ∧ e.tag = 3#8) := by decide

theorem witness_ReadQueueDescribesOwnEntries :
    Served .readQueue (held 0 (frame .readQueue []) blocked) 0 (frame .readQueue []) ∧
      Served .readQueue (held 0 (frame .readQueue [1]) blocked) 0 (frame .readQueue [1]) := by decide

/-! The channel sequencer -/

theorem witness_GateAndOverdrawLawsKept : GateLaw busy ∧ OverdrawLaw busy ∧ RecordLaw busy ∧ ∃ t, step busy = .next t := by
  refine ⟨by unfold GateLaw; decide, by unfold OverdrawLaw; decide, ⟨⟨?_, ?_⟩, fun c => ?_⟩, _, rfl⟩
  · unfold Configuration.InRange ChannelConfig.InRange; decide
  · intro p h
    cases h
    exact ⟨by decide, by decide⟩
  · have all : ∀ c, busy.chan c = chanIn .idle ∨ busy.chan c = chanIn .on := by decide
    rcases all c with e | e <;> rw [e]
    · exact ⟨rfl, by decide, by decide, by decide, by decide, by decide⟩
    · exact ⟨.inl rfl, by decide, by decide, by decide, by decide, by decide⟩

/-- Each state, with the output good at exactly nine tenths, off at just under a twentieth, or neither. -/
theorem witness_SampleMovesTheChannel :
    let good := reading 1500 1080 1200
    let off := reading 0 59 1200
    let neither := reading 900 60 1200
    let s := fun (st : ChanState) => driven st 0 0 none
    ((s .idle).scan = some { slot := 3, ends := 40004 } ∧ (s .idle).verdict 3 (sampleOf neither) = .none ∧
        ((s .idle).chan 3).idleFaults + 1 < 8) ∧
      ((s .checking).verdict 3 (sampleOf off) = .none ∧ 20 * (sampleOf off).output < (sampleOf off).bus) ∧
      ((s .ramping).verdict 3 (sampleOf good) = .none ∧ 9 * (sampleOf good).bus ≤ 10 * (sampleOf good).output ∧
        ((s .ramping).settings 3).pgInput = false ∧ (s .ramping).slot 3 = grant 740 1 4 3000 none) ∧
      ((s .on).verdict 3 (sampleOf good) = .none ∧ (s .on).verdict 3 (sampleOf neither) = .none) ∧
      ((s .discharging).verdict 3 (sampleOf neither) = .none ∧
        ¬ 20 * (sampleOf neither).output < (sampleOf neither).bus) ∧
      (s .latched).verdict 3 (sampleOf good) = .none := by decide

theorem witness_FailedCheckAndIdleLimitQuarantine :
    let s := driven .checking 0 0 none
    let t := inSlot 6 (calm.withChannel 6 fun ch => { ch with idleFaults := 7 })
    (s.scan = some { slot := 3, ends := 40004 } ∧ s.slot 3 = grant 740 1 4 3000 none ∧ (s.chan 3).state = .checking ∧
        ¬ 20 * (sampleOf (reading 0 60 1200)).output < (sampleOf (reading 0 60 1200)).bus) ∧
      (t.scan = some { slot := 6, ends := 40004 } ∧ (t.chan 6).state = .idle ∧ (t.chan 6).idleFaults = 7) := by decide

/-- A grant released by its owner, with no entry waiting; one whose channel two waiting entries name; and one released at the
teardown of an owner that is CLOSING. -/
theorem witness_DischargeEndsTheGrant :
    let s :=
      (driven .discharging 0 0 (some { kind := .discharge, expiry := 40800 })).withSlot 3 fun _ =>
        grant 740 1 4 3000 (some .released)
    let w := inSlot 2 (blocked.withChannel 2 fun ch => { ch with timer := some { kind := .discharge, expiry := 40800 } })
    s.slot 3 = grant 740 1 4 3000 (some .released) ∧ (s.chan 3).state = .discharging ∧ s.queue.entries = [] ∧
      s.scan = some { slot := 3, ends := 40004 } ∧
      20 * (sampleOf (reading 0 59 1200)).output < (sampleOf (reading 0 59 1200)).bus ∧
      (s.chan 3).timer = some { kind := .discharge, expiry := 40800 } ∧
      (w.slot 2 = grant 502 0 4 2500 (some .released) ∧ (w.chan 2).state = .discharging ∧
        w.scan = some { slot := 2, ends := 40004 } ∧ (w.chan 2).timer = some { kind := .discharge, expiry := 40800 } ∧
        w.queue.entries.any (WaitEntry.names 2) = true) ∧
      (let u := after (.leaseExpiry 1 0#2) (driven .on 0 0 none)
       u.slot 3 = grant 740 1 4 3000 (some .teardown) ∧ (u.chan 3).state = .discharging ∧
        (u.session 1).state = .closing ∧ ∀ d, d ≠ 3 → u.holds 1 d = false) := by decide

/-- The count at exactly 120, just over the limit; a current just over 30000 in RAMPING; the two timers. -/
theorem witness_TripsSwitchTheChannelOff :
    let s := driven .on 0 120 none
    let x := sampleOf (reading 2501 1180 1200)
    let y := sampleOf (reading 30001 1180 1200)
    (s.slot 3 = grant 740 1 4 3000 none ∧ s.scan = some { slot := 3, ends := 40004 } ∧ (s.chan 3).state = .on ∧
        ¬ 2 * ((s.settings 3).ceiling : Int) < powerOf x ∧ x.current.natAbs ≤ 30000 ∧
        (s.effectiveLimit 3 : Int) < powerOf x ∧ 120 ≤ (s.measure 3).overdraw) ∧
      (((driven .ramping 0 0 none).chan 3).state = .ramping ∧ 30000 < y.current.natAbs) ∧
      (((driven .ramping 0 0 (some { kind := .ramp, expiry := 40100 })).chan 3).timer =
        some { kind := .ramp, expiry := 40100 }) ∧
      (((driven .on 0 0 (some { kind := .grace, expiry := 40100 })).chan 3).timer =
        some { kind := .grace, expiry := 40100 }) := by decide

theorem witness_HoldoffExpiryStartsARetry :
    let s := driven .holdoff 1 0 (some { kind := .holdoff, expiry := 42000 })
    (s.slot 3).isSome = true ∧ (∀ g ∈ s.slot 3, s.ownerPresent g = true) ∧ (s.chan 3).state = .holdoff ∧
      (s.chan 3).timer = some { kind := .holdoff, expiry := 42000 } := by decide

theorem witness_ClearTripRestartsTheChannel :
    let s := fun (st : ChanState) (body : List Nat) => held 1 (frame .clearTrip body) (driven st 1 0 none)
    Served .clearTrip (s .holdoff []) 1 (frame .clearTrip []) ∧ Served .clearTrip (s .holdoff [8]) 1 (frame .clearTrip [8]) ∧
      (Served .clearTrip (s .holdoff [7]) 1 (frame .clearTrip [7]) ∧ (s .holdoff [7]).owns 1 7 = false) ∧
      (Served .clearTrip (s .on [3]) 1 (frame .clearTrip [3]) ∧ (s .on [3]).owns 1 3 = true) ∧
      (Served .clearTrip (s .holdoff [3]) 1 (frame .clearTrip [3]) ∧ (s .holdoff [3]).owns 1 3 = true ∧
        (s .holdoff [3]).slot 3 = grant 740 1 4 3000 none ∧ ((s .holdoff [3]).chan 3).state = .holdoff) := by decide

/-! Measurement and tallies -/

theorem witness_MeasurementLawsKept : RingLaw busy ∧ PeakLaw busy ∧ TallyLaw busy ∧ ∃ t, step busy = .next t := by
  refine ⟨by unfold RingLaw; decide, by unfold PeakLaw; decide, by unfold TallyLaw; decide, _, rfl⟩

/-- In ON with the owner's tally, over the limit at the last count that stays below 128, and within it; and in RAMPING. -/
theorem witness_SampleIsRecordedAndTallied :
    let s := driven .on 0 119 none
    let x := sampleOf (reading 2501 1180 1200)
    let y := sampleOf (reading 2500 1180 1200)
    ((s.chan 3).state = .on ∧ (s.measure 3).overdraw + 8 < 128 ∧ ¬ 2 * ((s.settings 3).ceiling : Int) < powerOf x ∧
        x.current.natAbs ≤ 30000 ∧ (s.effectiveLimit 3 : Int) < powerOf x ∧ powerOf y ≤ (s.effectiveLimit 3 : Int)) ∧
      ((driven .ramping 0 0 none).chan 3).state ≠ .on ∧
    s.scan = some { slot := 3, ends := 40004 } ∧ s.holds 1 3 = true ∧ s.holds 0 3 = false ∧
      ¬ ((s.chan 3).state = .discharging ∧ 20 * (sampleOf (reading 0 0 1200)).output < (sampleOf (reading 0 0 1200)).bus) := by
  decide

/-- A negative product, a positive one, and a bus voltage of 0. -/
theorem witness_SamplePowerAndPredicates :
    (sampleOf (reading (-334) 0 1200)).bus * (sampleOf (reading (-334) 0 1200)).current ≤ 0 ∧
      0 ≤ (sampleOf (reading 334 0 1200)).bus * (sampleOf (reading 334 0 1200)).current ∧
      0 < (sampleOf (reading 334 0 1200)).bus ∧ (sampleOf (reading 334 0 0)).bus = 0 := by decide

theorem witness_ReadChannelAndReadTallyReportAndClear :
    let s := fun (body : List Nat) => held 1 (frame .readChannel body) (driven .on 0 0 none)
    let t := fun (body : List Nat) => held 1 (frame .readTally body) (driven .on 0 0 none)
    (Served .readChannel (s [3]) 1 (frame .readChannel [3]) ∧ Served .readChannel (s [3, 2]) 1 (frame .readChannel [3, 2]) ∧
        Served .readChannel (s [8, 1]) 1 (frame .readChannel [8, 1]) ∧
        Served .readChannel (s [7, 0]) 1 (frame .readChannel [7, 0]) ∧
        (Served .readChannel (s [7, 1]) 1 (frame .readChannel [7, 1]) ∧ (s [7, 1]).owns 1 7 = false) ∧
        (Served .readChannel (s [3, 1]) 1 (frame .readChannel [3, 1]) ∧ (s [3, 1]).owns 1 3 = true)) ∧
      Served .readTally (t []) 1 (frame .readTally []) ∧ Served .readTally (t [2]) 1 (frame .readTally [2]) ∧
        Served .readTally (t [0]) 1 (frame .readTally [0]) ∧ Served .readTally (t [1]) 1 (frame .readTally [1]) := by decide

/-! Sessions -/

theorem witness_AttachOpensASession :
    let s := fun (st : SessionState) (body : List Nat) =>
      held 1 (frame .attach body) (calm.withSession 1 fun r => { r with state := st, epoch := 255 })
    (Next .attach (s .detached []) 1 (frame .attach []) ∧ ((s .detached []).session 1).state = .detached) ∧
      Next .attach (s .detached [0]) 1 (frame .attach [0]) ∧ Next .attach (s .attached []) 1 (frame .attach []) ∧
      Next .attach (s .closing []) 1 (frame .attach []) := by decide

/-- Host 3 the last elector lacking, host 0 the proposer; a consent lacking still; and host 3 no elector. -/
theorem witness_ClosingASessionTearsTheHostDown :
    (let p := proposal87 #v[true, true, true, false]
     busy.proposal = some p ∧ p.electorate.read 3 = true ∧ p.proposer = 0 ∧ p.proposer ≠ 3 ∧
      p.electorate.upd 3 (fun _ => false) = p.consents.upd 3 (fun _ => false) ∧
      p.electorate.upd 3 (fun _ => false) ≠ (proposal87 #v[true, false, true, false]).consents.upd 3 (fun _ => false) ∧
      ({ p with electorate := #v[true, true, true, false] } : Proposal).electorate.read 3 = false) ∧
    TableLaw busy ∧ busy.attached 3 = true ∧ Served .detach (held 3 (frame .detach []) busy) 3 (frame .detach []) ∧
      Served .detach (held 3 (frame .detach [0]) busy) 3 (frame .detach [0]) ∧ (busy.session 3).lease = some 47200 := by
  unfold TableLaw SlotLaw AdmissionLaw ItemsLaw; decide

theorem witness_ReportingRequestsAnswer :
    Next .queryPart (held 2 (frame .queryPart []) State.reset) 2 (frame .queryPart []) ∧
      Next .queryPart (held 2 (frame .queryPart [0]) State.reset) 2 (frame .queryPart [0]) ∧
      Served .renew (held 2 (frame .renew []) calm) 2 (frame .renew []) ∧
      Served .renew (held 2 (frame .renew [0]) calm) 2 (frame .renew [0]) ∧
      (Served .readSession (held 2 (frame .readSession []) calm) 2 (frame .readSession []) ∧
        ((held 2 (frame .readSession []) calm).session 2).lease = some 50000) ∧
      Served .readSession (held 2 (frame .readSession [0]) calm) 2 (frame .readSession [0]) ∧
      Served .readBudget (held 2 (frame .readBudget []) calm) 2 (frame .readBudget []) ∧
      Served .readBudget (held 2 (frame .readBudget [0]) calm) 2 (frame .readBudget [0]) := by decide

/-! Configuration and consent -/

theorem witness_ConsentAndConfigurationLawsKept :
    ConsentLaw busy ∧ ConfigLaw busy ∧ TotalLaw busy ∧ ∃ t, step busy = .next t := by
  refine ⟨?_, ⟨?_, ?_⟩, by unfold TotalLaw; decide, _, rfl⟩
  · have all : ∀ p ∈ busy.proposal, p.consents.read p.proposer = true ∧
        (∀ h, p.consents.read h = true → p.electorate.read h = true) ∧
        ∀ h, p.electorate.read h = true → busy.attached h = true := by decide
    exact fun p h => all p h
  · unfold Configuration.InRange ChannelConfig.InRange; decide
  · intro p h
    cases h
    exact ⟨by decide, by decide⟩

theorem witness_ConfigurationRequestsReport :
    let s := fun (body : List Nat) => held 1 (frame .readConfig body) calm
    Served .readConfig (s [0]) 1 (frame .readConfig [0]) ∧ Served .readConfig (s [2, 0]) 1 (frame .readConfig [2, 0]) ∧
      Served .readConfig (s [0, 9]) 1 (frame .readConfig [0, 9]) ∧ Served .readConfig (s [1, 8]) 1 (frame .readConfig [1, 8]) ∧
      Served .readConfig (s [1, 7]) 1 (frame .readConfig [1, 7]) ∧
      Served .readProposal (held 1 (frame .readProposal [0]) calm) 1 (frame .readProposal [0]) ∧
      (Served .readProposal (held 1 (frame .readProposal []) calm) 1 (frame .readProposal []) ∧
        (held 1 (frame .readProposal []) calm).proposal = none) ∧
      Served .readProposal (held 1 (frame .readProposal []) busy) 1 (frame .readProposal []) := by decide

/-- No kind; a proposal open; a bad argument; an opening; and an adoption at once, in a part where host 0 is alone. -/
theorem witness_ProposeOpensOrAdopts :
    let s := fun (body : List Nat) (t : State) => held 0 (frame .propose body) t
    let alone := calm.withSession 1 (fun r => { r with state := .detached })
      |>.withSession 2 (fun r => { r with state := .detached })
      |>.withSession 3 (fun r => { r with state := .detached })
    (Served .propose (s [10] calm) 0 (frame .propose [10]) ∧ readChange (frame .propose [10]).body = none) ∧
      (Served .propose (s [9] busy) 0 (frame .propose [9]) ∧ busy.proposal ≠ none ∧
        readChange (frame .propose [9]).body = some .resetPart) ∧
      (Served .propose (s [] calm) 0 (frame .propose []) ∧ Served .propose (s [9, 0] calm) 0 (frame .propose [9, 0]) ∧
        ∀ body ∈ ([[0, 253, 233, 0, 0], [0, 0, 0, 0, 1], [1, 8, 0, 1], [1, 7, 0, 0], [2, 8, 0, 10, 0, 100, 0, 0],
            [2, 7, 0, 9, 0, 100, 0, 0], [2, 7, 0, 10, 0, 99, 0, 0], [2, 7, 0, 10, 0, 100, 8, 0], [2, 7, 0, 10, 0, 100, 7, 2],
            [3, 4, 0, 0], [3, 3, 253, 233], [4, 1, 243], [5, 0, 99], [7, 8], [7, 7], [8, 8, 0, 1], [8, 7, 0, 0],
            [8, 7, 0, 1]] : List (List Nat)),
          Served .propose (s body calm) 0 (frame .propose body) ∧ (s body calm).proposal = none) ∧
      (Served .propose (s [6, 8] calm) 0 (frame .propose [6, 8]) ∧
        readChange (frame .propose [6, 8]).body = some (.setAveraging 8) ∧
        (s [6, 8] calm).validate 0 (.setAveraging 8) = .error .badValue) ∧
      (Served .propose (s [6, 7] calm) 0 (frame .propose [6, 7]) ∧
        (s [6, 7] calm).validate 0 (.setAveraging 7) = .ok (.setAveraging 7)) ∧
      (Served .propose (s [6, 7] alone) 0 (frame .propose [6, 7]) ∧ (s [6, 7] alone).proposal = none ∧
        (s [6, 7] alone).attached 1 = false) := by decide

theorem witness_ProposalBodyReadsBack :
    Change.InRange (.setAveraging 7) ∧
      (calm.withChannel 6 fun ch => { ch with state := .faulted }).chan 6 = { chanIn .idle with state := .faulted } ∧
      ((driven .on 0 0 none).slot 3 = grant 740 1 4 3000 none ∧ ((driven .on 0 0 none).chan 3).state ≠ .discharging) := by
  refine ⟨show 7 ≤ 7 by decide, by decide, by decide⟩

/-- Each line of R151's table, the last from host 3. -/
theorem witness_ConsentFollowsItsTable :
    let s := fun (h : HostId) (body : List Nat) => held h (frame .consent body) busy
    let excluded := proposal87 #v[true, false, false, false]
    let narrowed := { excluded with electorate := #v[true, true, true, false] }
    Served .consent (s 3 []) 3 (frame .consent []) ∧ Served .consent (s 3 [13]) 3 (frame .consent [13]) ∧
      (Served .consent (held 3 (frame .consent [14]) (agreed (some narrowed))) 3 (frame .consent [14]) ∧
        narrowed.electorate.read 3 = false) ∧
      (Served .consent (s 0 [14]) 0 (frame .consent [14]) ∧ (proposal87 #v[true, true, true, false]).consents.read 0 = true) ∧
      (Served .consent (held 3 (frame .consent [14]) (agreed (some excluded))) 3 (frame .consent [14]) ∧
        excluded.electorate.read 3 = true ∧ excluded.consents.read 3 = false) ∧
      (Served .consent (s 3 [14]) 3 (frame .consent [14]) ∧ busy.proposal = some (proposal87 #v[true, true, true, false]) ∧
        (proposal87 #v[true, true, true, false]).consents.read 3 = false) := by decide

theorem witness_ProposalClosesWithoutEffect :
    let s := fun (k : RequestKind) (h : HostId) (body : List Nat) => held h (frame k body) busy
    let narrowed := { proposal87 #v[true, false, false, false] with electorate := #v[true, true, true, false] }
    Served .dissent (s .dissent 3 []) 3 (frame .dissent []) ∧ Served .dissent (s .dissent 3 [13]) 3 (frame .dissent [13]) ∧
      (Served .dissent (held 3 (frame .dissent [14]) (agreed (some narrowed))) 3 (frame .dissent [14]) ∧
        narrowed.electorate.read 3 = false) ∧
      Served .dissent (s .dissent 3 [14]) 3 (frame .dissent [14]) ∧
      Served .withdraw (s .withdraw 0 []) 0 (frame .withdraw []) ∧ Served .withdraw (s .withdraw 0 [13]) 0 (frame .withdraw [13]) ∧
      Served .withdraw (s .withdraw 3 [14]) 3 (frame .withdraw [14]) ∧
      Served .withdraw (s .withdraw 0 [14]) 0 (frame .withdraw [14]) ∧
      busy.proposal = some (proposal87 #v[true, true, true, false]) := by decide

theorem witness_AdoptionsChangeWhatTheyName :
    ((calm.withChannel 6 fun ch => { ch with state := .faulted }).chan 6).state = .faulted ∧
      (∀ g ∈ (driven .on 0 0 none).slot 3, g.number = 740) ∧ (driven .on 0 0 none).slot 2 = none ∧
      blocked.queue.headBlocking = true ∧ (blocked.queue.judge blocked.now 0).headBlocking = false := by decide

/-- Each way the total can go, the lower one within the held total as well. -/
theorem witness_AdoptedLimitsBindTheQueue_levels :
    calm.budget.derateTaken = false ∧ calm.budget.total = 12000 ∧ calm.held ≤ 11999 ∧ calm.held ≤ 0 ∧
      (derating.budget.derateTaken = false ∧ 20000 < derating.budget.total ∧ 20000 < derating.held ∧ TableLaw derating ∧
        AccountLaw derating ∧ PositiveLaw derating) := by
  unfold TableLaw SlotLaw AdmissionLaw ItemsLaw AccountLaw PositiveLaw; decide

/-- A ceiling that every entry meets and one that an entry does not; a cap above the sums and one below. -/
theorem witness_AdoptedLimitsBindTheQueue_limits :
    (∀ e ∈ blocked.queue.entries, WaitEntry.over 2 4000 e = false) ∧
      (∃ e ∈ blocked.queue.entries, WaitEntry.over 2 3999 e = true) ∧
      (∀ e ∈ blocked.queue.entries, WaitEntry.overCap 0 1500 e = false) ∧
      ∃ e ∈ blocked.queue.entries, WaitEntry.overCap 0 1499 e = true := by decide

theorem witness_AdoptedResetPartReturnsTheDefaults : TableLaw busy ∧ OwnershipLaw busy ∧ BlockingLaw busy := by
  exact ⟨witness_SessionLawsKept.1.1, witness_SessionLawsKept.1, .inr ⟨by decide, by decide⟩⟩

/-! Dispatch and the link -/

theorem witness_ArbiterTakesInRotatingOrder : low.pins.resetLow = true ∧ calm.pins.resetLow = false := by decide

theorem witness_DispatchAnswersWithoutHandling :
    (Next .claim (held 2 (frame .claim []) State.reset) 2 (frame .claim []) ∧ State.reset.attached 2 = false) ∧
      (held 1 { kind := 0x77#8, tag := 7#8, body := [] } calm).nextFrame = some (1, { kind := 0x77#8, tag := 7#8, body := [] }) ∧
      kindOf 0x77#8 = none := by decide

theorem witness_EventsNotAtHandChangeNothing :
    (∀ k h f, ¬ Next k State.reset h f) ∧
      (∀ h f, State.reset.nextFrame = some (h, f) → kindOf f.kind ≠ none) ∧
      (∀ c, (State.reset.chan c).timer = none) ∧ (∀ h, (State.reset.session h).lease = none) ∧ State.reset.proposal = none ∧
      State.reset.queue.blockingTimer = none ∧ State.reset.queue.entries = [] ∧ State.reset.budget.derateHold = none ∧
      low.scan = none ∧ low.pins.resetLow = true ∧ State.reset.pins.resetLow = false ∧
      State.reset.scan = some { slot := 0, ends := 1 } ∧ State.reset.verdict 0 (sampleOf (reading 0 0 0)) ≠ .overdraw ∧
      State.reset.idleLimitReached 0 (sampleOf (reading 0 0 0)) = false ∧
      ((after (.peek 1 .fall) calm).port 1).select = some { status := 0x80#8, spares := false } ∧
      ((after (.outboxHeadFix 1) calm).port 1).fix = some { entry := none } := by
  have none : State.reset.nextFrame = none := by decide
  refine ⟨fun k h f n => ?_, fun h f n => ?_, by decide⟩
  · exact absurd (none.symm.trans n.1) (by simp)
  · exact absurd (none.symm.trans n) (by simp)

/-- Three notices; four with no marker; a standing marker at 254. -/
theorem witness_NoticeArrivalFollowsItsTable :
    let three := notes [.channelFaulted 0, .channelFaulted 1, .channelFaulted 2]
    calm.attached 2 = true ∧ ((∀ e ∈ three, e.isMarker = false) ∧ notices three ≤ 3) ∧
      ((∀ e ∈ full, e.isMarker = false) ∧ notices full = 4 ∧
        (calm.withOutbox 2 fun _ => full).outbox 2 = full.take 4 ++ .notice (.channelOn 2 410) :: [] ∧ notices [] = 0) ∧
      ((calm.withOutbox 2 fun _ => three ++ notes [.noticesLost 254]).outbox 2 = three ++ .notice (.noticesLost 254) :: [] ∧
        ∀ e ∈ three ++ [], e.isMarker = false) := by decide

theorem witness_OutboxLawKept : OutboxLaw busy ∧ ∃ t, step busy = .next t := by
  refine ⟨fun h => ⟨by revert h; decide, by revert h; decide, ?_⟩, _, rfl⟩
  have youngest : MarkerYoungest (notes [.channelFaulted 5, .noticesLost 4]) := by
    intro front e back eq marker
    rcases front with _ | ⟨a, _ | ⟨b, rest⟩⟩
    · cases eq; simp [OutEntry.isMarker] at marker
    · cases eq; rfl
    · simp [notes] at eq
  have empty : MarkerYoungest [] := fun front e back eq => by simp at eq
  have cases : busy.outbox h = [] ∨ busy.outbox h = notes [.channelFaulted 5, .noticesLost 4] := by revert h; decide
  rcases cases with e | e <;> rw [e] <;> assumption

/-- Each line of R183's table, the length byte at its bounds. -/
theorem witness_RequestIsJudgedByItsTable :
    let four := List.replicate 4 (reply .renew (.renew 5000))
    State.reset.ready = false ∧ calm.ready = true ∧ ([] : List Byte).length < 3 ∧ 24 < (25#8 : Byte).toNat ∧
      ([4#8, 0#8, 0#8, crc [4#8, 0#8, 0#8]] : List Byte).length = 4 + (0#8 : Byte).toNat ∧
      crc [4#8, 0#8, 0#8, 1#8] ≠ 0#8 ∧ crc (closed [4#8, 0#8, 0#8]) = 0#8 ∧
      ((held 1 (frame .renew []) calm).port 1).buffer = some (frame .renew []) ∧ (calm.port 1).buffer = none ∧
      4 ≤ responses ((calm.withOutbox 1 fun _ => four).outbox 1) ∧ responses (calm.outbox 1) < 4 := by decide +kernel

theorem witness_RequestFrameReadsBack : (frame .claim (body107 1)).body.length ≤ 24 := by decide

theorem witness_StatusAndPeekShowThePort :
    (calm.outbox 1).length ≤ 8 ∧ (calm.port 1).select = none ∧ (calm.port 1).fix = none ∧
      (0x33#8 : Byte) ∉ [0x00#8, 0x5A#8, 0x6C#8, 0x6D#8] ∧
      ((calm.port 1).fix.getD { entry := (calm.outbox 1).head? }).entry = none := by
  decide

/-- A flush since the fall of select; the EMPTY frame; a notice whole and cut short; a marker that has grown and one that has
not. -/
theorem witness_TakeRemovesTheHeadItClockedOut :
    let fixed := fun (box : List OutEntry) => after (.outboxHeadFix 2) (calm.withOutbox 2 fun _ => box)
    let flushed := (after (.take 2 .fall) calm).flush 2
    (calm.port 2).fix = none ∧ (flushed.port 2).select = some { status := 0x80#8, spares := true } ∧
    ((fixed []).port 2).fix = some { entry := none } ∧
      (((fixed (notes [.channelFaulted 5])).port 2).fix =
          some { entry := some (.notice (.channelFaulted 5)) } ∧
        (OutEntry.frame (.notice (.channelFaulted 5))).length = 7) ∧
      ((fixed (notes [.noticesLost 4])).port 2).fix =
        some { entry := some (.notice (.noticesLost 4)) } ∧
      ((fixed (notes [.noticesLost 4])).post 2 (.channelFaulted 5)).outbox 2 = notes [.noticesLost 5] := by decide

end Sys2Proof.Tests
end

section
/-! The account of a table update: what a change of one slot does to the sums of R8 and R25, to the laws of the table, and to
the amounts that R10 bounds. -/

namespace Sys2Proof

open Machine

/-! ### Sums over the channels -/

/-- What channel c adds to the sum over the channels that `p` picks. -/
def share (s : State) (p : ChanId → Bool) (c : ChanId) : Nat := if p c then amountIn s c else 0

theorem mem_allChannels (c : ChanId) : c ∈ allChannels := by revert c; decide

theorem sum_filter_eq_sum_share (s : State) (p : ChanId → Bool) (l : List ChanId) :
    ((l.filter p).map (amountIn s)).sum = (l.map (share s p)).sum := by
  induction l with
  | nil => rfl
  | cons c rest ih => by_cases h : p c = true <;> simp [h, ih, share]

theorem sumOver_eq_sum (s : State) (p : ChanId → Bool) : sumOver s p = ∑ c, share s p c := by
  rw [sumOver, sum_filter_eq_sum_share, Fin.sum_univ_def]
  rfl

theorem share_le_sumOver (s : State) (p : ChanId → Bool) (c : ChanId) : share s p c ≤ sumOver s p := by
  rw [sumOver_eq_sum]
  exact Finset.single_le_sum (fun _ _ => Nat.zero_le _) (Finset.mem_univ c)

/-- A change of channel c alone moves a sum by what the channel adds to it. -/
theorem sumOver_change {s t : State} {p q : ChanId → Bool} {c : ChanId} (others : ∀ d, d ≠ c → share t q d = share s p d) :
    sumOver t q + share s p c = sumOver s p + share t q c := by
  rw [sumOver_eq_sum, sumOver_eq_sum, ← Finset.add_sum_erase _ _ (Finset.mem_univ c),
    ← Finset.add_sum_erase Finset.univ (share s p) (Finset.mem_univ c),
    Finset.sum_congr rfl fun d m => others d (Finset.ne_of_mem_erase m)]
  exact (by omega : ∀ a b d : Nat, a + d + b = b + d + a) _ _ _

/-- A sum is of those that `q` picks as well and those it does not. -/
theorem sumOver_split (s : State) (q : ChanId → Bool) :
    sumOver s (fun _ => true) = sumOver s q + sumOver s (fun c => !q c) := by
  simp only [sumOver_eq_sum, ← Finset.sum_add_distrib]
  refine Finset.sum_congr rfl fun c _ => ?_
  by_cases h : q c = true <;> simp [share, h]

theorem sumOver_congr {s t : State} {p q : ChanId → Bool} (same : ∀ c, share t q c = share s p c) :
    sumOver t q = sumOver s p := by
  simp only [sumOver_eq_sum, same]

/-! ### The standing of a channel -/

/-- A channel is DISCHARGING. -/
def leaving (s : State) (c : ChanId) : Bool := (s.chan c).state == .discharging

/-- A channel is not DISCHARGING. -/
def standing (s : State) (c : ChanId) : Bool := !leaving s c

theorem withinTotal_iff (s : State) : WithinTotal s ↔ sumOver s (standing s) ≤ s.budget.total := Iff.rfl

theorem accountLaw_iff (s : State) : AccountLaw s ↔
    s.budget.reserved = sumOver s (fun _ => true) ∧ s.budget.releasing = sumOver s (leaving s) ∧
      ∀ h, s.hostReserved h = sumOver s (s.holds h) := Iff.rfl

/-- Of a sum that is accounted for, the part standing is the held total (R9). -/
theorem held_eq_sumOver_standing {s : State} (law : AccountLaw s) : s.held = sumOver s (standing s) := by
  obtain ⟨reserved, releasing, -⟩ := (accountLaw_iff s).1 law
  have split := sumOver_split s (leaving s)
  have same : sumOver s (fun c => !leaving s c) = sumOver s (standing s) := rfl
  rw [State.held, reserved, releasing]
  omega

/-- Within the total, and the held total within it, are the same thing of an account in order (R9, R10). -/
theorem withinTotal_iff_held {s : State} (law : AccountLaw s) : WithinTotal s ↔ s.held ≤ s.budget.total := by
  rw [withinTotal_iff, held_eq_sumOver_standing law]

/-- The grants standing take no more than the reserved total. -/
theorem standing_le_reserved {s : State} (law : AccountLaw s) : sumOver s (standing s) ≤ s.budget.reserved := by
  rw [← held_eq_sumOver_standing law]
  exact Nat.sub_le ..

theorem holds_of_slot {s : State} {c : ChanId} {g : Grant} (slot : s.slot c = some g) (h : HostId) :
    s.holds h c = (g.owner == h) := by
  simp [State.holds, slot]

theorem holds_of_empty {s : State} {c : ChanId} (slot : s.slot c = none) (h : HostId) : s.holds h c = false := by
  simp [State.holds, slot]

theorem holds_congr {s t : State} {c : ChanId} (same : t.slot c = s.slot c) (h : HostId) : t.holds h c = s.holds h c := by
  unfold State.holds
  rw [same]

theorem amountIn_of_slot {s : State} {c : ChanId} {g : Grant} (slot : s.slot c = some g) : amountIn s c = g.amount := by
  simp [amountIn, slot]

/-- Slot and standing are as before on every channel but c (R20). -/
def SameBut (c : ChanId) (s t : State) : Prop :=
  ∀ d, d ≠ c → t.slot d = s.slot d ∧ leaving t d = leaving s d

theorem SameBut.amountIn {c : ChanId} {s t : State} (same : SameBut c s t) {d : ChanId} (ne : d ≠ c) :
    amountIn t d = amountIn s d := by
  simp [Sys2Proof.amountIn, (same d ne).1]

theorem SameBut.sumOver_standing {c : ChanId} {s t : State} (same : SameBut c s t) :
    sumOver t (standing t) + share s (standing s) c = sumOver s (standing s) + share t (standing t) c :=
  sumOver_change fun d ne => by simp [share, standing, same.amountIn ne, (same d ne).2]

/-- An account whose totals move with the change of one channel stays in order (R8, R25). -/
theorem accountLaw_of_change {s t : State} {c : ChanId} (law : AccountLaw s) (same : SameBut c s t)
    (reserved : t.budget.reserved + amountIn s c = s.budget.reserved + amountIn t c)
    (releasing : t.budget.releasing + share s (leaving s) c = s.budget.releasing + share t (leaving t) c)
    (host : ∀ h, t.hostReserved h + share s (s.holds h) c = s.hostReserved h + share t (t.holds h) c) : AccountLaw t := by
  obtain ⟨all, discharging, each⟩ := (accountLaw_iff s).1 law
  have moved : sumOver t (fun _ => true) + amountIn s c = sumOver s (fun _ => true) + amountIn t c :=
    sumOver_change (p := fun _ => true) (q := fun _ => true) fun d ne => by simp [share, same.amountIn ne]
  have left : sumOver t (leaving t) + share s (leaving s) c = sumOver s (leaving s) + share t (leaving t) c :=
    sumOver_change fun d ne => by simp [share, same.amountIn ne, (same d ne).2]
  refine ⟨by omega, ?_, fun h => ?_⟩
  · change _ = sumOver t (leaving t)
    omega
  · have held : sumOver t (t.holds h) + share s (s.holds h) c = sumOver s (s.holds h) + share t (t.holds h) c :=
      sumOver_change fun d ne => by
        simp [share, holds_congr (same d ne).1, same.amountIn ne]
    have := each h
    have := host h
    omega

/-! ### The laws that every act keeps -/

/-- The laws of table and account that hold between the acts of an event: the law of the budget but for its bound. -/
def LedgerLaw (s : State) : Prop := TableLaw s ∧ AccountLaw s ∧ PositiveLaw s

theorem budgetLaw_iff (s : State) : BudgetLaw s ↔ LedgerLaw s ∧ WithinTotal s := by
  simp only [BudgetLaw, LedgerLaw, and_assoc]

/-- Every entry's channels are distinct and its amounts at least 1 (R39). -/
def EntriesLaw (s : State) : Prop := ItemsLaw s ∧ PositiveLaw s

theorem ledgerLaw_iff (s : State) : LedgerLaw s ↔ SlotLaw s ∧ AdmissionLaw s ∧ AccountLaw s ∧ EntriesLaw s := by
  simp only [LedgerLaw, TableLaw, EntriesLaw]
  tauto

/-- Entries that were there before keep their law. -/
theorem EntriesLaw.of_subset {s t : State} (law : EntriesLaw s) (sub : ∀ e ∈ t.queue.entries, e ∈ s.queue.entries) :
    EntriesLaw t :=
  ⟨fun e m => law.1 e (sub e m), fun e m => law.2 e (sub e m)⟩

/-- What the table laws see of a state is as it was: slots, admission list, which channels are free and which DISCHARGING,
totals and entries. -/
structure SameLedger (s t : State) : Prop where
  grants : t.grants = s.grants
  vacant : ∀ c, (t.chan c).state = .idle ∨ (t.chan c).state = .faulted ↔
    (s.chan c).state = .idle ∨ (s.chan c).state = .faulted
  leaving : ∀ c, leaving t c = leaving s c
  reserved : t.budget.reserved = s.budget.reserved
  releasing : t.budget.releasing = s.budget.releasing
  total : t.budget.total = s.budget.total
  entries : ∀ e ∈ t.queue.entries, e ∈ s.queue.entries

theorem SameLedger.slot {s t : State} (same : SameLedger s t) (c : ChanId) : t.slot c = s.slot c := by
  simp [State.slot, same.grants]

theorem SameLedger.sumOver_eq {s t : State} (same : SameLedger s t) {p q : ChanId → Bool} (picks : ∀ c, q c = p c) :
    sumOver t q = sumOver s p :=
  sumOver_congr fun c => by simp [share, amountIn, same.slot, picks]

theorem SameLedger.ledgerLaw {s t : State} (same : SameLedger s t) (law : LedgerLaw s) : LedgerLaw t := by
  obtain ⟨slots, admission, account, entries⟩ := (ledgerLaw_iff s).1 law
  obtain ⟨all, discharging, each⟩ := (accountLaw_iff s).1 account
  refine (ledgerLaw_iff t).2 ⟨fun c => ?_, ?_, (accountLaw_iff t).2 ⟨?_, ?_, fun h => ?_⟩, entries.of_subset same.entries⟩
  · rw [same.slot, slots c]
    exact (same.vacant c).symm
  · simpa only [AdmissionLaw, same.grants, same.slot] using admission
  · rw [same.reserved, all, same.sumOver_eq fun _ => rfl]
  · rw [same.releasing, discharging, same.sumOver_eq same.leaving]
  · rw [same.sumOver_eq fun c => holds_congr (same.slot c) h, ← each h]
    simp [State.hostReserved, same.grants]

theorem SameLedger.withinTotal {s t : State} (same : SameLedger s t) (law : WithinTotal s) : WithinTotal t := by
  rw [withinTotal_iff, same.total, same.sumOver_eq (p := standing s) fun c => by simp [standing, same.leaving c]]
  exact law

end Sys2Proof
end

section
/-! The acts and the account: every act keeps the laws of the table and the totals, none takes the grants standing above the
total, and above the total no act adds a grant. -/

namespace Sys2Proof

open Machine

/-! ### What the ends of a grant write -/

section Ends
variable (s : State) (c d : ChanId) (g : Grant) (after : ChanState)

theorem removeGrant_chan : (s.removeGrant c g after).chan d = if d = c then Channel.rest after else s.chan d := by
  simp [State.removeGrant, State.withChannel_chan]

theorem removeGrant_slot : (s.removeGrant c g after).slot d = if d = c then none else s.slot d := by
  simp [State.removeGrant, State.withSlot_slot]

@[simp] theorem removeGrant_admission :
    (s.removeGrant c g after).grants.admission = s.grants.admission.erase c := by
  simp [State.removeGrant]

@[simp] theorem removeGrant_budget :
    (s.removeGrant c g after).budget =
      { s.budget with
        reserved := s.budget.reserved - g.amount
        releasing := if leaving s c then s.budget.releasing - g.amount else s.budget.releasing } := by
  simp [State.removeGrant, leaving]

theorem removeGrant_hostReserved (h : HostId) :
    (s.removeGrant c g after).hostReserved h =
      if h = g.owner then s.hostReserved h - g.amount else s.hostReserved h := by
  simp [State.removeGrant, State.withHostReserved_hostReserved]

@[simp] theorem removeGrant_queue : (s.removeGrant c g after).queue = s.queue := by
  simp [State.removeGrant]

theorem startDischarge_chan :
    (s.startDischarge c g).chan d =
      if d = c then
        { s.chan d with
          state := .discharging, gate := false
          timer := some { kind := .discharge, expiry := s.now + ms Config.dischargeWindow } }
      else s.chan d := by
  simp [State.startDischarge, State.withChannel_chan]

@[simp] theorem startDischarge_slot : (s.startDischarge c g).slot d = s.slot d := rfl

@[simp] theorem startDischarge_grants : (s.startDischarge c g).grants = s.grants := rfl

@[simp] theorem startDischarge_hostReserved (h : HostId) : (s.startDischarge c g).hostReserved h = s.hostReserved h := rfl

@[simp] theorem startDischarge_budget :
    (s.startDischarge c g).budget = { s.budget with releasing := s.budget.releasing + g.amount } := rfl

end Ends

/-! ### Creation -/

/-- Channel c is IDLE and holds no grant (R49). -/
def Free (s : State) (c : ChanId) : Prop := (s.chan c).state = .idle ∧ s.slot c = none

theorem free_of_admissible {s : State} {e : WaitEntry} (adm : s.admissible e = true) :
    ∀ i ∈ e.items, Free s i.channel := by
  simp only [State.admissible, State.channelsFree, Bool.and_eq_true, List.all_eq_true, beq_iff_eq,
    Option.isNone_iff_eq_none] at adm
  exact adm.1.1

theorem sum_le_free_of_admissible {s : State} {e : WaitEntry} (adm : s.admissible e = true) : e.sum ≤ s.free := by
  simp only [State.admissible, Bool.and_eq_true, decide_eq_true_eq] at adm
  exact adm.1.2

theorem sameBut_createGrant (s : State) (e : WaitEntry) (i : Item) : SameBut i.channel s (s.createGrant e i) :=
  fun d ne => by simp [leaving, ne]

/-- A grant created on a free channel is entered in the table and in the totals (R8, R23, R25). -/
theorem ledgerLaw_createGrant {s : State} {e : WaitEntry} {i : Item} (law : LedgerLaw s) (free : Free s i.channel) :
    LedgerLaw (s.createGrant e i) := by
  obtain ⟨slots, ⟨nodup, members⟩, account, entries⟩ := (ledgerLaw_iff s).1 law
  obtain ⟨idle, empty⟩ := free
  refine (ledgerLaw_iff _).2 ⟨fun d => ?_, ⟨?_, fun d => ?_⟩, ?_, entries.of_subset fun x m => by simpa using m⟩
  · have := slots d
    by_cases h : d = i.channel <;> simp_all
  · have new : i.channel ∉ s.grants.admission := fun m => by simp [members, empty] at m
    simpa [List.nodup_append, nodup] using fun a m (h : a = i.channel) => new (h ▸ m)
  · by_cases h : d = i.channel <;> simp [members, h]
  · refine accountLaw_of_change account (sameBut_createGrant s e i) ?_ ?_ fun h => ?_
    · simp [amountIn, empty, State.grantFor]
    · simp [share, leaving, idle]
    · by_cases own : h = e.host
      · subst own
        simp [share, State.holds, amountIn, empty, State.grantFor]
      · simp [share, State.holds, empty, State.grantFor, own, Ne.symm own]

theorem sumOver_standing_createGrant {s : State} {e : WaitEntry} {i : Item} (free : Free s i.channel) :
    sumOver (s.createGrant e i) (standing (s.createGrant e i)) = sumOver s (standing s) + i.amount := by
  have := (sameBut_createGrant s e i).sumOver_standing
  simpa [share, standing, leaving, amountIn, free.1, free.2, State.grantFor] using this

theorem free_createGrant {s : State} {e : WaitEntry} {i : Item} {c : ChanId} (free : Free s c) (ne : c ≠ i.channel) :
    Free (s.createGrant e i) c := by
  simpa [Free, ne] using free

/-- The grants of an entry's items, on channels that are free and distinct, are entered in the table and in the totals, and the
amounts standing rise by their sum. -/
theorem ledgerLaw_createGrants {e : WaitEntry} (is : List Item) : ∀ {s : State}, LedgerLaw s →
    (∀ i ∈ is, Free s i.channel) → (is.map Item.channel).Nodup →
    LedgerLaw (s.createGrants e is).1 ∧ sumOver (s.createGrants e is).1 (standing (s.createGrants e is).1) =
      sumOver s (standing s) + (is.map Item.amount).sum := by
  induction is with
  | nil => exact fun law _ _ => ⟨law, rfl⟩
  | cons i rest ih =>
    intro s law free nodup
    have first := free i (by simp)
    obtain ⟨new, nodup⟩ := List.nodup_cons.1 nodup
    have later : ∀ j ∈ rest, Free (s.createGrant e i) j.channel := fun j m =>
      free_createGrant (free j (by simp [m])) fun h => new (h ▸ List.mem_map_of_mem m)
    obtain ⟨law', sum⟩ := ih (ledgerLaw_createGrant (e := e) law first) later nodup
    refine ⟨law', sum.trans ?_⟩
    rw [sumOver_standing_createGrant first, List.map_cons, List.sum_cons, Nat.add_assoc]

/-! ### What changes no ledger -/

theorem SameLedger.of_eq {s t : State} (grants : t.grants = s.grants) (channels : t.channels = s.channels)
    (budget : t.budget = s.budget) (entries : ∀ e ∈ t.queue.entries, e ∈ s.queue.entries) : SameLedger s t where
  grants := grants
  vacant c := by simp [State.chan, channels]
  leaving c := by simp [Sys2Proof.leaving, State.chan, channels]
  reserved := by rw [budget]
  releasing := by rw [budget]
  total := by rw [budget]
  entries := entries

theorem sameLedger_setEntries {s : State} {es : List WaitEntry} (sub : ∀ e ∈ es, e ∈ s.queue.entries) :
    SameLedger s (s.setEntries es) := by
  refine .of_eq ?_ ?_ ?_ (by simpa using sub) <;> (rw [State.setEntries_eq])

theorem sameLedger_post (s : State) (h : HostId) (n : Notice) : SameLedger s (s.post h n) := by
  refine .of_eq ?_ ?_ ?_ (by simp) <;> rw [State.post_eq]

theorem sameLedger_endClosing (s : State) (h : HostId) : SameLedger s (s.endClosing h) := by
  unfold State.endClosing
  split <;> exact .of_eq rfl rfl rfl fun _ m => m

theorem sameLedger_fault {s : State} {c : ChanId} (idle : (s.chan c).state = .idle) :
    SameLedger s (s.withChannel c fun _ => Channel.rest .faulted) where
  grants := rfl
  vacant d := by
    by_cases h : d = c
    · subst h; simp [State.withChannel_chan, Channel.rest, idle]
    · simp [State.withChannel_chan, h]
  leaving d := by
    by_cases h : d = c
    · subst h; simp [leaving, State.withChannel_chan, Channel.rest, idle]
    · simp [leaving, State.withChannel_chan, h]
  reserved := rfl
  releasing := rfl
  total := rfl
  entries _ m := m

/-! ### Firm grants -/

/-- Channel c holds a grant that is not DISCHARGING. -/
def firm (s : State) (c : ChanId) : Bool := (s.slot c).isSome && standing s c

theorem SameLedger.firm {s t : State} (same : SameLedger s t) (c : ChanId) : firm t c = firm s c := by
  simp [Sys2Proof.firm, standing, same.slot, same.leaving]

/-- With no grant firm, the total is not exceeded. -/
theorem withinTotal_of_no_firm {s : State} (none : ∀ c, firm s c = false) : WithinTotal s := by
  have zero : sumOver s (standing s) = 0 := by
    rw [sumOver_eq_sum]
    refine Finset.sum_eq_zero fun c _ => ?_
    have := none c
    unfold firm at this
    cases slot : s.slot c <;> simp_all [share, amountIn]
  rw [withinTotal_iff, zero]
  exact Nat.zero_le _

/-- From `s` to `t` the bound of R10 is reached or kept, or no grant is firm that was not. -/
def Eases (s t : State) : Prop := WithinTotal t ∨ ¬ WithinTotal s ∧ ∀ c, firm t c = true → firm s c = true

theorem Eases.refl (s : State) : Eases s s := (em (WithinTotal s)).imp_right fun h => ⟨h, fun _ f => f⟩

theorem Eases.trans {s t u : State} (h : Eases s t) (k : Eases t u) : Eases s u := by
  rcases k with within | ⟨beyond, sub⟩
  · exact .inl within
  · rcases h with within | ⟨beyond', sub'⟩
    · exact absurd within beyond
    · exact .inr ⟨beyond', fun c f => sub' c (sub c f)⟩

theorem Eases.of_le {s t : State} (sum : WithinTotal s → WithinTotal t) (sub : ∀ c, firm t c = true → firm s c = true) :
    Eases s t := by
  by_cases h : WithinTotal s
  · exact .inl (sum h)
  · exact .inr ⟨h, sub⟩

theorem SameLedger.eases {s t : State} (same : SameLedger s t) : Eases s t :=
  .of_le same.withinTotal fun c f => (same.firm c).symm.trans f

/-! ### Each act -/

theorem ledgerLaw_admitEntry {s : State} {e : WaitEntry} (law : LedgerLaw s) (mem : e ∈ s.queue.entries)
    (adm : s.admissible e = true) : LedgerLaw (s.admitEntry e).1 ∧ Eases s (s.admitEntry e).1 := by
  obtain ⟨-, -, account, items, positive⟩ := (ledgerLaw_iff s).1 law
  obtain ⟨law', sum⟩ := ledgerLaw_createGrants (e := e) e.items law (free_of_admissible adm) (items e mem)
  have out : SameLedger (s.createGrants e e.items).1 (s.admitEntry e).1 :=
    sameLedger_setEntries fun x m => List.mem_of_mem_erase m
  refine ⟨out.ledgerLaw law', ?_⟩
  have fits : e.sum ≤ s.budget.total - s.budget.reserved := sum_le_free_of_admissible adm
  have total := (quiet_createGrants s e e.items).total
  by_cases within : WithinTotal s
  · refine .inl (out.withinTotal ?_)
    rw [withinTotal_iff] at within ⊢
    have := standing_le_reserved account
    rw [sum, total]
    change _ + e.sum ≤ _
    omega
  · have none : e.items = [] := by
      rw [withinTotal_iff] at within
      have := standing_le_reserved account
      have zero : e.sum = 0 := by omega
      refine List.eq_nil_iff_forall_not_mem.2 fun i m => ?_
      have := positive e mem i m
      have := List.sum_eq_zero_iff.1 zero i.amount (List.mem_map_of_mem m)
      omega
    rw [none] at out
    exact out.eases

theorem sameBut_removeGrant (s : State) (c : ChanId) (g : Grant) (after : ChanState) :
    SameBut c s (s.removeGrant c g after) := fun d ne => by
  simp [removeGrant_slot, leaving, removeGrant_chan, ne]

/-- A grant that ends leaves the table and the totals (R8, R25, R31). -/
theorem ledgerLaw_removeGrant {s : State} {c : ChanId} {g : Grant} {after : ChanState} (law : LedgerLaw s)
    (slot : s.slot c = some g) (rest : after = .idle ∨ after = .faulted) : LedgerLaw (s.removeGrant c g after) := by
  obtain ⟨slots, ⟨nodup, members⟩, account, entries⟩ := (ledgerLaw_iff s).1 law
  obtain ⟨all, discharging, each⟩ := (accountLaw_iff s).1 account
  refine (ledgerLaw_iff _).2 ⟨fun d => ?_, ⟨?_, fun d => ?_⟩, ?_, entries.of_subset fun x m => by simpa using m⟩
  · rw [removeGrant_slot, removeGrant_chan]
    split
    · simpa [Channel.rest] using rest
    · exact slots d
  · simpa using nodup.erase c
  · by_cases h : d = c <;> simp [removeGrant_slot, nodup.mem_erase_iff, h, members]
  · have empty : amountIn (s.removeGrant c g after) c = 0 := by simp [amountIn, removeGrant_slot]
    refine accountLaw_of_change account (sameBut_removeGrant s c g after) ?_ ?_ fun h => ?_
    · have le := share_le_sumOver s (fun _ => true) c
      simp only [share, amountIn_of_slot slot, if_true, ← all] at le
      simp only [removeGrant_budget, empty, amountIn_of_slot slot]
      omega
    · have le := share_le_sumOver s (leaving s) c
      rw [← discharging] at le
      by_cases h : leaving s c = true <;> simp_all [share, amountIn_of_slot slot]
    · have le := share_le_sumOver s (s.holds h) c
      rw [← each h] at le
      by_cases own : h = g.owner
      · subst own
        simp_all [share, holds_of_slot slot, amountIn_of_slot slot, removeGrant_hostReserved]
      · simp [share, holds_of_slot slot, empty, removeGrant_hostReserved, own, Ne.symm own]

theorem firm_removeGrant (s : State) (c d : ChanId) (g : Grant) (after : ChanState) :
    firm (s.removeGrant c g after) d = if d = c then false else firm s d := by
  by_cases h : d = c
  · simp [firm, removeGrant_slot, h]
  · simp [firm, standing, removeGrant_slot, leaving, removeGrant_chan, h]

theorem eases_removeGrant (s : State) (c : ChanId) (g : Grant) (after : ChanState) :
    Eases s (s.removeGrant c g after) := by
  refine .of_le (fun within => ?_) fun d f => ?_
  · have sum := (sameBut_removeGrant s c g after).sumOver_standing
    have none : share (s.removeGrant c g after) (standing (s.removeGrant c g after)) c = 0 := by
      simp [share, amountIn, removeGrant_slot]
    rw [withinTotal_iff] at within ⊢
    simp only [removeGrant_budget]
    omega
  · rw [firm_removeGrant] at f
    split at f
    · cases f
    · exact f

theorem ledgerLaw_markCause {s : State} (c : ChanId) (k : ReleaseCause) (law : LedgerLaw s) :
    LedgerLaw (s.markCause c k) ∧ Eases s (s.markCause c k) := by
  obtain ⟨slots, ⟨nodup, members⟩, account, entries⟩ := (ledgerLaw_iff s).1 law
  obtain ⟨all, discharging, each⟩ := (accountLaw_iff s).1 account
  have isSome (d : ChanId) : ((s.markCause c k).slot d).isSome = (s.slot d).isSome := by
    by_cases h : d = c <;> simp [State.markCause_slot, h]
  have amount (d : ChanId) : amountIn (s.markCause c k) d = amountIn s d := by
    by_cases h : d = c
    · cases slot : s.slot d <;> simp_all [amountIn, State.markCause_slot]
    · simp [amountIn, State.markCause_slot, h]
  have holds (h : HostId) (d : ChanId) : (s.markCause c k).holds h d = s.holds h d := by
    by_cases e : d = c
    · cases slot : s.slot d <;> simp_all [State.holds, State.markCause_slot]
    · simp [State.holds, State.markCause_slot, e]
  have sums {p q : ChanId → Bool} (picks : ∀ d, q d = p d) : sumOver (s.markCause c k) q = sumOver s p :=
    sumOver_congr fun d => by simp [share, amount, picks]
  refine ⟨(ledgerLaw_iff _).2 ⟨fun d => ?_, ⟨nodup, fun d => ?_⟩, (accountLaw_iff _).2 ⟨?_, ?_, fun h => ?_⟩,
    entries.of_subset fun x m => m⟩, .of_le (fun within => ?_) fun d f => ?_⟩
  · rw [← Option.not_isSome_iff_eq_none, isSome, Option.not_isSome_iff_eq_none]
    exact slots d
  · rw [isSome]
    exact members d
  · exact all.trans (sums fun _ => rfl).symm
  · exact discharging.trans (sums fun _ => rfl).symm
  · exact (each h).trans (sums (holds h)).symm
  · exact (withinTotal_iff _).2 ((sums (p := standing s) fun _ => rfl).trans_le within)
  · simpa [firm, isSome, standing, leaving] using f

theorem sameBut_startDischarge (s : State) (c : ChanId) (g : Grant) : SameBut c s (s.startDischarge c g) :=
  fun d ne => by simp [leaving, startDischarge_chan, ne]

theorem leaving_startDischarge (s : State) (c : ChanId) (g : Grant) : leaving (s.startDischarge c g) c = true := by
  simp [leaving, startDischarge_chan]

/-- A grant that begins its discharge is counted as releasing (R8, R86). -/
theorem ledgerLaw_startDischarge {s : State} {c : ChanId} {g k : Grant} (law : LedgerLaw s) (slot : s.slot c = some k)
    (amount : k.amount = g.amount) (state : (s.chan c).state = .ramping ∨ (s.chan c).state = .on) :
    LedgerLaw (s.startDischarge c g) := by
  obtain ⟨slots, admission, account, entries⟩ := (ledgerLaw_iff s).1 law
  have stood : leaving s c = false := by rcases state with h | h <;> simp [leaving, h]
  refine (ledgerLaw_iff _).2 ⟨fun d => ?_, admission, ?_, entries.of_subset fun x m => m⟩
  · have := slots d
    by_cases h : d = c
    · subst h
      simp [startDischarge_chan, slot]
    · simp [startDischarge_chan, h, this]
  · refine accountLaw_of_change account (sameBut_startDischarge s c g) rfl ?_ fun h => rfl
    simp [share, stood, leaving_startDischarge, amountIn, slot, amount]

theorem firm_startDischarge (s : State) (c d : ChanId) (g : Grant) :
    firm (s.startDischarge c g) d = if d = c then false else firm s d := by
  by_cases h : d = c
  · simp [firm, standing, leaving_startDischarge, h]
  · simp [firm, standing, (sameBut_startDischarge s c g d h).2, h]

theorem eases_startDischarge (s : State) (c : ChanId) (g : Grant) : Eases s (s.startDischarge c g) := by
  refine .of_le (fun within => ?_) fun d f => ?_
  · have sum := (sameBut_startDischarge s c g).sumOver_standing
    have none : share (s.startDischarge c g) (standing (s.startDischarge c g)) c = 0 := by
      simp [share, standing, leaving_startDischarge]
    rw [withinTotal_iff] at within ⊢
    simp only [startDischarge_budget]
    omega
  · rw [firm_startDischarge] at f
    split at f
    · cases f
    · exact f

/-- Every act keeps the laws of table and account, and eases the total or keeps within it. -/
theorem ledgerLaw_act {s t : State} (a : Act s t) (law : LedgerLaw s) : LedgerLaw t ∧ Eases s t := by
  have of_same {u : State} (same : SameLedger s u) : LedgerLaw u ∧ Eases s u := ⟨same.ledgerLaw law, same.eases⟩
  cases a with
  | post h n => exact of_same (sameLedger_post ..)
  | leave es sub => exact of_same (sameLedger_setEntries fun e m => sub.subset m)
  | admitEntry e mem adm => exact ledgerLaw_admitEntry law mem adm
  | finish c g after slot rest _ => exact ⟨ledgerLaw_removeGrant law slot rest, eases_removeGrant ..⟩
  | mark c k => exact ledgerLaw_markCause c k law
  | discharge c g k slot amount state => exact ⟨ledgerLaw_startDischarge law slot amount state, eases_startDischarge ..⟩
  | fault c idle => exact of_same (sameLedger_fault idle)
  | close h => exact of_same (sameLedger_endClosing ..)

theorem ledgerLaw_acts {s t : State} (h : Acts s t) (law : LedgerLaw s) : LedgerLaw t ∧ Eases s t := by
  refine h.keeps (law := fun u => LedgerLaw u ∧ Eases s u) (fun u v l a => ?_) ⟨law, .refl s⟩
  obtain ⟨law', eases⟩ := ledgerLaw_act a l.1
  exact ⟨law', l.2.trans eases⟩

/-- Every run of acts keeps the law of the budget (R10). -/
theorem budgetLaw_acts {s t : State} (h : Acts s t) (law : BudgetLaw s) : BudgetLaw t := by
  obtain ⟨ledger, within⟩ := (budgetLaw_iff s).1 law
  obtain ⟨ledger', eases⟩ := ledgerLaw_acts h ledger
  exact (budgetLaw_iff t).2 ⟨ledger', eases.elim id fun beyond => absurd within beyond.1⟩

end Sys2Proof
end

section
/-! Shedding: which grant it takes (R11), and that it brings the grants standing within the total (R10). -/

namespace Sys2Proof

open Machine

/-! ### The choice -/

theorem firm_iff {s : State} {c : ChanId} :
    firm s c = true ↔ ∃ g, s.slot c = some g ∧ (s.chan c).state ≠ .discharging := by
  simp [firm, standing, leaving, Option.isSome_iff_exists]

theorem shedChoice_cons_of_not_firm {s : State} {c : ChanId} {rest : List ChanId} (no : firm s c = false) :
    s.shedChoice (c :: rest) = s.shedChoice rest := by
  rw [State.shedChoice]
  split
  · rfl
  · next g slot =>
    split
    · rfl
    · next state => simp [firm_iff.2 ⟨g, slot, state⟩] at no

theorem shedChoice_cons_of_none {s : State} {c : ChanId} {rest : List ChanId} {g : Grant} (slot : s.slot c = some g)
    (state : (s.chan c).state ≠ .discharging) (none : s.shedChoice rest = none) :
    s.shedChoice (c :: rest) = some (c, g.priority) := by
  simp [State.shedChoice, slot, state, none]

theorem shedChoice_cons_of_some {s : State} {c d : ChanId} {p : Nat} {rest : List ChanId} {g : Grant}
    (slot : s.slot c = some g) (state : (s.chan c).state ≠ .discharging) (later : s.shedChoice rest = some (d, p)) :
    s.shedChoice (c :: rest) = if p ≤ g.priority then some (d, p) else some (c, g.priority) := by
  simp [State.shedChoice, slot, state, later]

/-- Shedding finds nothing exactly when no grant of the list is firm (R11). -/
theorem shedChoice_eq_none {s : State} {list : List ChanId} :
    s.shedChoice list = none ↔ ∀ c ∈ list, firm s c = false := by
  induction list with
  | nil => simp [State.shedChoice]
  | cons c rest ih =>
    by_cases f : firm s c = true
    · obtain ⟨g, slot, state⟩ := firm_iff.1 f
      simp only [List.mem_cons, forall_eq_or_imp, f, Bool.true_eq_false, false_and, iff_false]
      cases later : s.shedChoice rest with
      | none => simp [shedChoice_cons_of_none slot state later]
      | some dp =>
        rw [shedChoice_cons_of_some slot state later]
        split <;> simp
    · rw [Bool.not_eq_true] at f
      simp [shedChoice_cons_of_not_firm f, ih, f]

/-- Every firm grant among some channels has a priority that `p` allows. -/
def FirmOf (s : State) (list : List ChanId) (p : Nat → Prop) : Prop :=
  ∀ d ∈ list, ∀ k, s.slot d = some k → (s.chan d).state ≠ .discharging → p k.priority

theorem firmOf_nil (s : State) (p : Nat → Prop) : FirmOf s [] p := fun _ m => absurd m List.not_mem_nil

theorem firmOf_of_none {s : State} {list : List ChanId} (none : s.shedChoice list = none) (p : Nat → Prop) :
    FirmOf s list p := fun d m k slot state =>
  absurd ((firm_iff.2 ⟨k, slot, state⟩).symm.trans (shedChoice_eq_none.1 none d m)) Bool.noConfusion

/-- What shedding takes: no older grant of lower priority, no younger one of equal or lower priority (R11). -/
theorem shedChoice_eq_some {s : State} {list : List ChanId} : ∀ {c : ChanId} {p : Nat}, s.shedChoice list = some (c, p) →
    ∃ older younger g, list = older ++ c :: younger ∧ s.slot c = some g ∧ g.priority = p ∧
      (s.chan c).state ≠ .discharging ∧ FirmOf s older (p ≤ ·) ∧ FirmOf s younger (p < ·) := by
  induction list with
  | nil => exact fun h => nomatch h
  | cons x rest ih =>
    intro c p chosen
    by_cases f : firm s x = true
    · obtain ⟨g, slot, state⟩ := firm_iff.1 f
      cases later : s.shedChoice rest with
      | none =>
        simp only [shedChoice_cons_of_none slot state later, Option.some.injEq, Prod.mk.injEq] at chosen
        obtain ⟨rfl, rfl⟩ := chosen
        exact ⟨[], rest, g, rfl, slot, rfl, state, firmOf_nil s _, firmOf_of_none later _⟩
      | some dq =>
        obtain ⟨d, q⟩ := dq
        rw [shedChoice_cons_of_some slot state later] at chosen
        obtain ⟨older, younger, k, rfl, slot', rfl, state', lows, highs⟩ := ih later
        split at chosen <;> obtain ⟨rfl, rfl⟩ := Prod.mk.injEq .. ▸ Option.some.inj chosen
        · next le =>
          refine ⟨x :: older, younger, k, rfl, slot', rfl, state', fun d m j slotD stateD => ?_, highs⟩
          rcases List.mem_cons.1 m with rfl | m
          · obtain rfl : g = j := Option.some.inj (slot.symm.trans slotD)
            exact le
          · exact lows d m j slotD stateD
        · next gt =>
          refine ⟨[], _, g, rfl, slot, rfl, state, firmOf_nil s _, fun d m j slotD stateD => ?_⟩
          rcases List.mem_append.1 m with m | m
          · exact (Nat.lt_of_not_le gt).trans_le (lows d m j slotD stateD)
          · rcases List.mem_cons.1 m with rfl | m
            · obtain rfl : k = j := Option.some.inj (slot'.symm.trans slotD)
              exact Nat.lt_of_not_le gt
            · exact (Nat.lt_of_not_le gt).trans (highs d m j slotD stateD)
    · rw [Bool.not_eq_true] at f
      rw [shedChoice_cons_of_not_firm f] at chosen
      obtain ⟨older, younger, g, rfl, slot, prio, state, lows, highs⟩ := ih chosen
      refine ⟨x :: older, younger, g, rfl, slot, prio, state, fun d m j slotD stateD => ?_, highs⟩
      rcases List.mem_cons.1 m with rfl | m
      · simp [firm_iff.2 ⟨j, slotD, stateD⟩] at f
      · exact lows d m j slotD stateD

theorem firm_of_shedChoice {s : State} {list : List ChanId} {c : ChanId} {p : Nat}
    (chosen : s.shedChoice list = some (c, p)) : firm s c = true := by
  obtain ⟨_, _, g, -, slot, -, state, -, -⟩ := shedChoice_eq_some chosen
  exact firm_iff.2 ⟨g, slot, state⟩

/-! ### One grant at a time -/

theorem shed_of_held_le {s : State} (le : s.held ≤ s.budget.total) (n : Nat) : s.shed n = s := by
  cases n with
  | zero => rfl
  | succ n => rw [State.shed, if_pos le]

theorem shed_of_none {s : State} (none : s.shedChoice s.grants.admission = none) (n : Nat) : s.shed n = s := by
  cases n with
  | zero => rfl
  | succ n => simp [State.shed, none]

theorem shed_succ {s : State} {c : ChanId} {p : Nat} (gt : s.budget.total < s.held)
    (chosen : s.shedChoice s.grants.admission = some (c, p)) (n : Nat) :
    s.shed (n + 1) = (s.releaseGrant c .shed).shed n := by
  simp [State.shed, chosen, Nat.not_le.2 gt]

/-- Settles O10: the choice by induction over the list, the loop from the equations of `shed`. -/
theorem sheddingTakesLowestPriorityThenYoungest : Obligations.SheddingTakesLowestPriorityThenYoungest := by
  refine ⟨fun s list => ⟨?_, fun c p chosen => ?_⟩, fun s n =>
    ⟨fun le => shed_of_held_le le n, fun none => shed_of_none none n, fun c p gt chosen => shed_succ gt chosen n⟩⟩
  · rw [shedChoice_eq_none]
    refine forall₂_congr fun c _ => ?_
    rw [← Bool.not_eq_true, firm_iff]
    push Not
    rfl
  · exact shedChoice_eq_some chosen

/-! ### Shedding reaches the total -/

/-- A release of a firm grant comes, within the event, to a state in which the grant is firm no longer. -/
theorem releaseGrant_unfirms {s : State} {c : ChanId} (law : LedgerLaw s) (f : firm s c = true) (k : ReleaseCause) :
    ∃ u, Acts s u ∧ firm u c = false ∧ Acts u (s.releaseGrant c k) := by
  obtain ⟨g, slot, state⟩ := firm_iff.1 f
  obtain ⟨slots, -⟩ := (ledgerLaw_iff s).1 law
  have held : ¬ ((s.chan c).state = .idle ∨ (s.chan c).state = .faulted) := fun h => by simp [(slots c).2 h] at slot
  let r := (s.markCause c k).postRevoked c g k
  have marked : Acts s r := (Acts.single (.mark ..)).trans (acts_postRevoked ..)
  have slotR : r.slot c = some { g with cause := some k } := by simp [r, State.markCause_slot, slot]
  have chanR : r.chan c = s.chan c := by simp [r]
  have ended (gate : (s.chan c).state ≠ .ramping ∧ (s.chan c).state ≠ .on) :
      ∃ u, Acts s u ∧ firm u c = false ∧ Acts u (r.endToIdle c) := by
    refine ⟨r.removeGrant c { g with cause := some k } .idle, marked.tail (.finish _ c _ _ slotR (.inl rfl) ?_),
      by simp [firm_removeGrant], ?_⟩
    · rwa [chanR]
    · rw [State.endToIdle, slotR]
      exact ((acts_postEnded ..).trans (acts_scanQueue _)).tail (.close ..)
  have discharges (gate : (s.chan c).state = .ramping ∨ (s.chan c).state = .on) :
      ∃ u, Acts s u ∧ firm u c = false ∧ Acts u (r.startDischarge c g) := by
    refine ⟨_, marked.tail (.discharge _ c g _ slotR rfl ?_), by simp [firm_startDischarge], .refl _⟩
    rwa [chanR]
  unfold State.releaseGrant
  simp only [slot]
  cases h : (s.chan c).state <;> simp only [h] at held state ended discharges ⊢
  case checking | holdoff | latched => exact ended (by simp)
  case ramping | on => exact discharges (by simp)
  all_goals simp at held state

/-- The channels whose grant is firm. -/
def firmSet (s : State) : Finset ChanId := Finset.univ.filter fun c => firm s c = true

theorem mem_firmSet {s : State} {c : ChanId} : c ∈ firmSet s ↔ firm s c = true := by simp [firmSet]

/-- A release of a firm grant brings the grants standing within the total, or leaves fewer of them. -/
theorem releaseGrant_eases {s : State} {c : ChanId} (law : LedgerLaw s) (f : firm s c = true) (k : ReleaseCause) :
    WithinTotal (s.releaseGrant c k) ∨ (firmSet (s.releaseGrant c k)).card < (firmSet s).card := by
  obtain ⟨u, before, unfirm, after⟩ := releaseGrant_unfirms law f k
  obtain ⟨lawU, eases⟩ := ledgerLaw_acts before law
  rcases (ledgerLaw_acts after lawU).2 with within | ⟨beyond, sub⟩
  · exact .inl within
  · rcases eases with within | ⟨-, sub'⟩
    · exact absurd within beyond
    · refine .inr (Finset.card_lt_card ⟨fun d m => mem_firmSet.2 (sub' d (sub d (mem_firmSet.1 m))), fun h => ?_⟩)
      have := sub c (mem_firmSet.1 (h (mem_firmSet.2 f)))
      simp [unfirm] at this

/-- Shedding with a bound that the firm grants do not exceed brings them within the total (R10, R11). -/
theorem withinTotal_shed (n : Nat) : ∀ {s : State}, LedgerLaw s → (firmSet s).card ≤ n → WithinTotal (s.shed n) := by
  have nothing {s : State} (empty : firmSet s = ∅) : WithinTotal s :=
    withinTotal_of_no_firm fun c => by simpa [empty] using (mem_firmSet (s := s) (c := c)).not
  induction n with
  | zero => exact fun _ le => nothing (Finset.card_eq_zero.1 (Nat.le_zero.1 le))
  | succ n ih =>
    intro s law le
    obtain ⟨-, ⟨-, members⟩, account, -⟩ := (ledgerLaw_iff s).1 law
    by_cases small : s.held ≤ s.budget.total
    · rw [shed_of_held_le small]
      exact (withinTotal_iff_held account).2 small
    · cases choice : s.shedChoice s.grants.admission with
      | none =>
        rw [shed_of_none choice]
        refine withinTotal_of_no_firm fun c => ?_
        by_cases m : c ∈ s.grants.admission
        · exact shedChoice_eq_none.1 choice c m
        · have := mt (members c).2 m
          simp_all [firm]
      | some cp =>
        obtain ⟨c, p⟩ := cp
        rw [shed_succ (Nat.lt_of_not_le small) choice]
        obtain ⟨law', -⟩ := ledgerLaw_acts (acts_releaseGrant s c .shed) law
        rcases releaseGrant_eases law (firm_of_shedChoice choice) .shed with within | fewer
        · rw [shed_of_held_le ((withinTotal_iff_held law'.2.1).1 within)]
          exact within
        · exact ih law' (by omega)

theorem firmSet_card_le {s : State} (law : LedgerLaw s) : (firmSet s).card ≤ s.grants.admission.length := by
  obtain ⟨-, ⟨-, members⟩, -⟩ := (ledgerLaw_iff s).1 law
  refine (Finset.card_le_card fun c m => ?_).trans s.grants.admission.toFinset_card_le
  have := mem_firmSet.1 m
  simp_all [firm]

/-- Shedding as recomputation runs it ends within the total. -/
theorem withinTotal_shed_admission {s : State} (law : LedgerLaw s) : WithinTotal (s.shed s.grants.admission.length) :=
  withinTotal_shed _ law (firmSet_card_le law)

/-- After a recomputation the law of the budget holds, whatever the total was (R6, R10). -/
theorem budgetLaw_recompute {s : State} (law : LedgerLaw s) (within : WithinTotal s) (k : BudgetCause) :
    BudgetLaw (s.recompute k) := by
  have same : LedgerLaw (s.withTotal s.selectedLevel) := law
  refine (budgetLaw_iff _).2 ⟨(ledgerLaw_acts (acts_recompute s k) same).1, ?_⟩
  unfold State.recompute
  dsimp only
  have keeps {u v : State} (h : Acts u v) (l : LedgerLaw u) (w : WithinTotal u) : WithinTotal v :=
    ((budgetLaw_iff v).1 (budgetLaw_acts h ((budgetLaw_iff u).2 ⟨l, w⟩))).2
  have raised (ge : s.budget.total ≤ (s.withTotal s.selectedLevel).budget.total) : WithinTotal (s.withTotal s.selectedLevel) :=
    Nat.le_trans within ge
  split
  · exact keeps (acts_broadcast ..) (ledgerLaw_acts (acts_shed ..) same).1 (withinTotal_shed_admission same)
  · next fall =>
    have base := raised (Nat.le_of_not_lt fall)
    split
    · exact keeps ((acts_broadcast ..).trans (acts_scanQueue _)) same base
    · exact base

end Sys2Proof
end

section
/-! What a step can do, said once: every command but the three resets is a run of deeds, and most commands are runs of moves
alone, which leave pins, level, filter, scan, configuration, proposal and sessions' standing as they were. -/

namespace Sys2Proof

open Machine

/-! ### The turns of a channel record -/

/-- What the sequencer makes of a channel record with no grant beginning or ending (R74 to R85, R163). -/
inductive Turn (now : Nat) (k : ChannelConfig) (ch : Channel) : Channel → Prop where
  /-- A sample in IDLE with the output off. -/
  | off (state : ch.state = .idle) : Turn now k ch { ch with idleFaults := 0 }
  /-- A sample in IDLE without, short of the limit. -/
  | count (state : ch.state = .idle) (short : ch.idleFaults + 1 < Config.idleFaultLimit) :
      Turn now k ch { ch with idleFaults := ch.idleFaults + 1 }
  /-- CHECKING found the output off. -/
  | ramp (state : ch.state = .checking) :
      Turn now k ch
        { ch with state := .ramping, gate := true, timer := some { kind := .ramp, expiry := now + ms k.rampWindow } }
  /-- RAMPING found the output good. -/
  | good (state : ch.state = .ramping) : Turn now k ch { ch with state := .on, timer := none }
  /-- ON with the output good. -/
  | steady (state : ch.state = .on) : Turn now k ch { ch with timer := none }
  /-- ON without, the grace timer not running. -/
  | grace (state : ch.state = .on) (stopped : ch.timer = none) :
      Turn now k ch { ch with timer := some { kind := .grace, expiry := now + ms Config.grace } }
  /-- A trip. -/
  | trip (state : ch.state = .ramping ∨ ch.state = .on) :
      Turn now k ch (ch.tripped (decide (k.retryLimit ≤ ch.retries)) (now + ms k.holdoff))
  /-- The end of the holdoff. -/
  | retry (state : ch.state = .holdoff) :
      Turn now k ch { ch with state := .checking, timer := none, retries := ch.retries + 1 }
  /-- CLEAR_TRIP. -/
  | clear (state : ch.state = .holdoff ∨ ch.state = .latched) :
      Turn now k ch { ch with state := .checking, timer := none, retries := 0 }
  /-- CLEAR_CHANNEL_FAULT adopted. -/
  | mend (state : ch.state = .faulted) : Turn now k ch (Channel.rest .idle)

/-! ### Moves -/

/-- The parts of the commands that touch neither pins, level, filter, scan, configuration, proposal nor the standing of a
session. -/
inductive Move : State → State → Prop where
  | act {s t : State} (a : Act s t) : Move s t
  /-- Time passes. -/
  | later (s : State) (n : Nat) (le : s.now ≤ n) : Move s { s with now := n }
  /-- Blocking of the head is judged or becomes true (R54). -/
  | flags (s : State) (blocking : Bool) (timer : Option Nat) :
      Move s { s with queue := { s.queue with headBlocking := blocking, blockingTimer := timer } }
  | arrival (s : State) : Move s s.advanceArrival
  /-- An entry of an attached host joins the queue (R39, R41). -/
  | place (s : State) (e : WaitEntry) (att : s.attached e.host = true) (distinct : (e.items.map Item.channel).Nodup)
      (positive : ∀ i ∈ e.items, 1 ≤ i.amount) : Move s (s.place e)
  /-- A grant's amount is replaced by one that fits (R27, R28). -/
  | resize (s : State) (c : ChanId) (g : Grant) (amount : Nat) (slot : s.slot c = some g)
      (state : (s.chan c).state ≠ .discharging) (positive : 1 ≤ amount)
      (fits : amount < g.amount ∨ g.amount < amount ∧ amount - g.amount ≤ s.free) : Move s (s.setAmount c g amount)
  | turn (s : State) (c : ChanId) (ch : Channel) (turn : Turn s.now (s.settings c) (s.chan c) ch) :
      Move s (s.withChannel c fun _ => ch)
  | meas (s : State) (table : Table 8 Measurement) : Move s { s with meas := table }
  | tallies (s : State) (table : Table 4 Tally) : Move s { s with tallies := table }
  | outboxes (s : State) (table : Table 4 (List OutEntry)) : Move s { s with outboxes := table }
  | ports (s : State) (table : Table 4 Port) : Move s { s with ports := table }
  /-- The arbiter takes the next frame (R134, R185). -/
  | take (s : State) (h : HostId) (f : Frame) (next : s.nextFrame = some (h, f)) : Move s (taken s h)
  /-- The proposal counter moves on (R146). -/
  | number (s : State) : Move s s.advanceProposal

/-- A run of moves. -/
abbrev Moves : State → State → Prop := Relation.ReflTransGen Move

/-- What no move changes. -/
structure Calm (s t : State) : Prop where
  pins        : t.pins = s.pins
  total       : t.budget.total = s.budget.total
  derateTaken : t.budget.derateTaken = s.budget.derateTaken
  scan        : t.scan = s.scan
  rounds      : t.rounds = s.rounds
  config      : t.config = s.config
  proposal    : t.proposal = s.proposal
  ready       : t.ready = s.ready
  attached    : ∀ h, t.attached h = s.attached h

theorem Calm.refl (s : State) : Calm s s := by constructor <;> intros <;> rfl

theorem Calm.trans {s t u : State} (h : Calm s t) (k : Calm t u) : Calm s u where
  pins := k.pins.trans h.pins
  total := k.total.trans h.total
  derateTaken := k.derateTaken.trans h.derateTaken
  scan := k.scan.trans h.scan
  rounds := k.rounds.trans h.rounds
  config := k.config.trans h.config
  proposal := k.proposal.trans h.proposal
  ready := k.ready.trans h.ready
  attached x := (k.attached x).trans (h.attached x)

theorem calm_of_quiet {s t : State} (q : Quiet s t) : Calm s t :=
  ⟨q.pins, q.total, q.derateTaken, q.scan, q.rounds, q.config, q.proposal, q.ready, q.attached⟩

theorem Move.calm {s t : State} (m : Move s t) : Calm s t := by
  cases m with
  | act a => exact calm_of_quiet a.quiet
  | place e => exact calm_of_quiet (quiet_setEntries ..)
  | take h => constructor <;> intros <;> simp
  | _ => constructor <;> intros <;> rfl

theorem Moves.calm {s t : State} (m : Moves s t) : Calm s t := by
  induction m with
  | refl => exact .refl _
  | tail _ a ih => exact ih.trans a.calm

/-- A law that every move keeps is kept by every run of moves. -/
theorem Moves.keeps {law : State → Prop} (step : ∀ s t, law s → Move s t → law t) {s t : State} (m : Moves s t) (l : law s) :
    law t := by
  induction m with
  | refl => exact l
  | tail _ a ih => exact step _ _ ih a

theorem moves_acts {s t : State} (h : Acts s t) : Moves s t := by
  induction h with
  | refl => exact .refl
  | tail _ a ih => exact ih.tail (.act a)

theorem moves_reach (s : State) (t : Nat) : Moves s (s.reach t) := .single (.later _ _ (Nat.le_max_left ..))

theorem moves_withMeasure (s : State) (c : ChanId) (f : Measurement → Measurement) : Moves s (s.withMeasure c f) :=
  .single (.meas ..)

theorem moves_withTally (s : State) (h : HostId) (f : Tally → Tally) : Moves s (s.withTally h f) := .single (.tallies ..)

theorem moves_respond (s : State) (h : HostId) (f : Frame) (a : Answer) : Moves s (s.respond h f a) :=
  .single (.outboxes ..)

theorem moves_refuse (s : State) (h : HostId) (f : Frame) (r : Reason) : Moves s (s.refuse h f r) := moves_respond ..

theorem moves_withPort (s : State) (h : HostId) (f : Port → Port) : Moves s (s.withPort h f) := .single (.ports ..)

theorem moves_flush (s : State) (h : HostId) : Moves s (s.flush h) :=
  (Relation.ReflTransGen.single (.outboxes ..)).tail (.ports ..)

theorem moves_turn {s : State} {c : ChanId} {f : Channel → Channel}
    (turn : Turn s.now (s.settings c) (s.chan c) (f (s.chan c))) : Moves s (s.withChannel c f) := by
  have same : s.withChannel c f = s.withChannel c fun _ => f (s.chan c) := by
    unfold State.withChannel
    rw [Table.upd_congr (g := fun _ => f (s.chan c)) _ _ rfl]
  rw [same]
  exact .single (.turn s c _ turn)

theorem moves_judgeHead (s : State) : Moves s s.judgeHead := by
  have flags : s.judgeHead =
      { s with queue := { s.queue with
          headBlocking := s.judgeHead.queue.headBlocking, blockingTimer := s.judgeHead.queue.blockingTimer } } := by
    unfold State.judgeHead WaitQueue.judge
    split
    · rfl
    · split
      · rfl
      · split <;> rfl
  rw [flags]
  exact .single (.flags ..)

theorem moves_restartRings (s : State) : Moves s s.restartRings := by
  rw [State.restartRings_eq]
  exact .single (.meas ..)

/-! ### Samples and channel timers -/

theorem moves_postHolder (s : State) (c : ChanId) (n : Grant → Notice) : Moves s (s.postHolder c n) := by
  unfold State.postHolder
  split
  · exact .refl
  · exact moves_acts (acts_postOwner ..)

theorem moves_trip {s : State} {c : ChanId} (state : (s.chan c).state = .ramping ∨ (s.chan c).state = .on) (k : TripCause) :
    Moves s (s.trip c k) :=
  ((moves_turn (.trip state)).trans (moves_withMeasure ..)).trans (moves_postHolder ..)

theorem moves_sampleIdle {s : State} {c : ChanId} (state : (s.chan c).state = .idle) (off : Bool) :
    Moves s (s.sampleIdle c off) := by
  unfold State.sampleIdle
  split
  · exact moves_turn (.off state)
  · split
    · next short => exact moves_turn (.count state short)
    · exact moves_acts (acts_faultIdle s c state)

theorem moves_sampleChecking {s : State} {c : ChanId} (state : (s.chan c).state = .checking) (off : Bool) :
    Moves s (s.sampleChecking c off) := by
  unfold State.sampleChecking
  split
  · exact moves_turn (.ramp state)
  · exact moves_acts ((Acts.single (.mark ..)).trans (acts_endToFaulted _ c (by simp [state])))

theorem moves_sampleRamping {s : State} {c : ChanId} (state : (s.chan c).state = .ramping) (good : Bool) :
    Moves s (s.sampleRamping c good) := by
  unfold State.sampleRamping
  split
  · exact (moves_turn (.good state)).trans (moves_postHolder ..)
  · exact .refl

theorem moves_sampleOn {s : State} {c : ChanId} (state : (s.chan c).state = .on) (good : Bool) :
    Moves s (s.sampleOn c good) := by
  unfold State.sampleOn
  split
  · exact moves_turn (.steady state)
  · split
    · exact .refl
    · next stopped => exact moves_turn (.grace state (by simpa using stopped))

theorem moves_sampleDischarging {s : State} {c : ChanId} (state : (s.chan c).state = .discharging) (off : Bool) :
    Moves s (s.sampleDischarging c off) := by
  unfold State.sampleDischarging
  split
  · exact moves_acts (acts_endToIdle s c (by simp [state]))
  · exact .refl

theorem moves_sampleArrival {s : State} {c : ChanId} {off good : Bool} {v : Verdict}
    (gated : v ≠ .none → (s.chan c).state = .ramping ∨ (s.chan c).state = .on) :
    Moves s (s.sampleArrival c off good v) := by
  unfold State.sampleArrival
  split
  · exact moves_trip (gated (by simp)) _
  · exact moves_trip (gated (by simp)) _
  · split
    · next state => exact moves_sampleIdle state _
    · next state => exact moves_sampleChecking state _
    · next state => exact moves_sampleRamping state _
    · next state => exact moves_sampleOn state _
    · next state => exact moves_sampleDischarging state _
    all_goals exact .refl

/-- Only a channel in RAMPING or ON has a verdict (R72, R109). -/
theorem gated_of_verdict {s : State} {c : ChanId} {r : Reading} (trips : s.verdict c r ≠ .none) :
    (s.chan c).state = .ramping ∨ (s.chan c).state = .on := by
  unfold State.verdict at trips
  split at trips
  · next state => exact .inr state
  · next state => exact .inl state
  · exact absurd rfl trips

theorem moves_tallySample (s : State) (c : ChanId) (p : Int) : Moves s (s.tallySample c p) := by
  unfold State.tallySample
  split
  · exact .refl
  · exact moves_withTally ..

theorem tallySample_chan (s : State) (c d : ChanId) (p : Int) : (s.tallySample c p).chan d = s.chan d := by
  unfold State.tallySample
  split <;> rfl

theorem moves_sampleEvent (s : State) (c : ChanId) (r : Reading) : Moves s (s.sampleEvent c r) := by
  refine ((moves_withMeasure ..).trans (moves_tallySample ..)).trans (moves_sampleArrival fun trips => ?_)
  rw [tallySample_chan, State.withMeasure_chan]
  exact gated_of_verdict trips

theorem state_of_expiryOf {s : State} {c : ChanId} {k : TimerKind} {st : ChanState} {e : Nat}
    (running : s.expiryOf c k st = some e) : (s.chan c).state = st := by
  unfold State.expiryOf at running
  split at running
  · cases running
  · split at running
    · next fits => exact fits.2
    · cases running

/-! ### Requests -/

theorem moves_bodiless {s : State} {h : HostId} {f : Frame} {answer : State → State} (m : Moves s (answer s)) :
    Moves s (s.bodiless h f answer) := by
  unfold State.bodiless
  split
  · exact m
  · exact moves_refuse ..

/-- The items of a claim as they were read. -/
theorem rawItems_eq {raw : List (Nat × Nat)} : ∀ {items : List Item}, rawItems raw = some items →
    items.map (fun i => (i.channel.val, i.amount)) = raw := by
  induction raw with
  | nil => intro items h; simp [rawItems] at h; simp [h]
  | cons x rest ih =>
    intro items h
    obtain ⟨n, a⟩ := x
    rw [rawItems] at h
    split at h
    · next c items' chan read =>
      cases h
      unfold channelOf at chan
      split at chan
      · cases chan
        simp [ih read]
      · cases chan
    · cases h

/-- A claim that is read names distinct channels and positive amounts (R39, R43). -/
theorem claimFields_items {body : List Byte} {cl : Claim} (read : claimFields body = .ok cl) :
    (cl.items.map Item.channel).Nodup ∧ ∀ i ∈ cl.items, 1 ≤ i.amount := by
  unfold claimFields at read
  split at read
  · cases read
  · next r _ =>
    split at read
    · next range =>
      split at read
      · cases read
      · next items raw =>
        cases read
        simp only [RawClaim.inRange, Bool.and_eq_true, List.all_eq_true, decide_eq_true_eq] at range
        obtain ⟨⟨-, amounts⟩, distinct⟩ := range
        rw [← rawItems_eq raw] at amounts distinct
        refine ⟨List.Nodup.of_map Fin.val ?_, fun i m => ?_⟩
        · simpa [Function.comp_def] using distinct
        · exact (amounts _ (List.mem_map_of_mem m)).1
    · cases read

theorem moves_takeOut (s : State) (e : WaitEntry) : Moves s (s.takeOut e) :=
  moves_acts (.single (.leave _ _ List.erase_sublist))

theorem moves_claimWait {s : State} {h : HostId} {f : Frame} {cl : Claim} (att : s.attached h = true)
    (distinct : (cl.items.map Item.channel).Nodup) (positive : ∀ i ∈ cl.items, 1 ≤ i.amount) :
    Moves s (s.claimWait h f cl) := by
  unfold State.claimWait
  split
  · exact moves_refuse ..
  · dsimp only
    have scanned : Moves s (((s.place (s.entryFor h f.tag cl s.queue.nextArrival)).advanceArrival).scanFor h f.tag).1 :=
      ((Relation.ReflTransGen.single (.place s (s.entryFor h f.tag cl _) att distinct positive)).tail (.arrival _)).trans
        (moves_acts (acts_scanFor ..))
    split
    · exact scanned.trans (moves_respond ..)
    · exact scanned.trans (moves_respond ..)
    · exact scanned.trans (moves_respond ..)

theorem moves_claimNoWait {s : State} {h : HostId} {f : Frame} {cl : Claim} (att : s.attached h = true)
    (distinct : (cl.items.map Item.channel).Nodup) (positive : ∀ i ∈ cl.items, 1 ≤ i.amount) :
    Moves s (s.claimNoWait h f cl) := by
  unfold State.claimNoWait
  dsimp only
  have scanned : Moves s ((s.place (s.entryFor h f.tag cl 0)).scanFor h f.tag).1 :=
    (Relation.ReflTransGen.single (.place s (s.entryFor h f.tag cl 0) att distinct positive)).trans
      (moves_acts (acts_scanFor ..))
  split
  · exact scanned.trans (moves_respond ..)
  · exact (scanned.trans (moves_takeOut ..)).trans (moves_respond ..)
  · exact (scanned.trans (moves_takeOut ..)).trans (moves_respond ..)

theorem moves_handleClaim {s : State} {h : HostId} (f : Frame) (att : s.attached h = true) :
    Moves s (handleClaim h f s) := by
  unfold handleClaim
  split
  · exact moves_refuse ..
  · next cl read =>
    obtain ⟨distinct, positive⟩ := claimFields_items read
    split
    · exact moves_refuse ..
    · split
      · exact moves_claimWait att distinct positive
      · exact moves_claimNoWait att distinct positive

theorem moves_handleCancel (s : State) (h : HostId) (f : Frame) : Moves s (handleCancel h f s) := by
  unfold handleCancel
  split
  · split
    · exact moves_refuse ..
    · exact ((moves_takeOut ..).trans (moves_acts (acts_scanQueue _))).trans (moves_respond ..)
  · exact moves_refuse ..

theorem moves_resizeChecked (s : State) (h : HostId) (f : Frame) (c : ChanId) (amount : Nat) :
    Moves s (s.resizeChecked h f c amount) := by
  unfold State.resizeChecked
  split
  · exact moves_refuse ..
  · next g slot =>
    split
    · exact moves_refuse ..
    · split
      · exact moves_refuse ..
      · next state =>
        split
        · exact moves_refuse ..
        · next range =>
          rw [not_not] at range
          split
          · exact moves_refuse ..
          · split
            · exact moves_respond ..
            · next ne =>
              split
              · next down =>
                exact ((Relation.ReflTransGen.single (.resize s c g amount slot state range.1 (.inl down))).trans
                  (moves_acts (acts_scanQueue _))).trans (moves_respond ..)
              · next up =>
                unfold State.resizeUp
                split
                · exact moves_refuse ..
                · split
                  · exact moves_respond ..
                  · next fits =>
                    rw [not_or] at fits
                    exact (Relation.ReflTransGen.single (.resize s c g amount slot state range.1
                      (.inr ⟨by omega, by omega⟩))).trans (moves_respond ..)

theorem moves_handleResize (s : State) (h : HostId) (f : Frame) : Moves s (handleResize h f s) := by
  unfold handleResize
  split
  · split
    · exact moves_refuse ..
    · exact moves_resizeChecked ..
  · exact moves_refuse ..

theorem moves_handleRelease (s : State) (h : HostId) (f : Frame) : Moves s (handleRelease h f s) := by
  unfold handleRelease
  split
  · exact moves_refuse ..
  · unfold State.releaseChecked
    split
    · exact moves_refuse ..
    · split
      · exact moves_refuse ..
      · have released := moves_acts (acts_releaseGrant s ‹ChanId› .released)
        split <;> first | exact moves_refuse .. | exact released.trans (moves_respond ..)

theorem moves_handleClearTrip (s : State) (h : HostId) (f : Frame) : Moves s (handleClearTrip h f s) := by
  unfold handleClearTrip
  split
  · exact moves_refuse ..
  · unfold State.clearTripChecked
    split
    · exact moves_refuse ..
    · split
      · exact moves_refuse ..
      · split
        · next state => exact (moves_turn (.clear (.inl state))).trans (moves_respond ..)
        · next state => exact (moves_turn (.clear (.inr state))).trans (moves_respond ..)
        all_goals exact moves_refuse ..

theorem moves_handleReadChannel (s : State) (h : HostId) (f : Frame) : Moves s (handleReadChannel h f s) := by
  unfold handleReadChannel
  split
  · split
    · exact moves_refuse ..
    · exact moves_refuse ..
    · unfold State.readChannelChecked
      split
      · split
        · exact (moves_withMeasure ..).trans (moves_respond ..)
        · exact moves_refuse ..
      · exact moves_respond ..
  · exact moves_refuse ..

theorem moves_handleReadTally (s : State) (h : HostId) (f : Frame) : Moves s (handleReadTally h f s) := by
  unfold handleReadTally
  split
  · split
    · exact moves_refuse ..
    · split
      · exact (moves_withTally ..).trans (moves_respond ..)
      · exact moves_respond ..
  · exact moves_refuse ..

theorem moves_handleReadConfig (s : State) (h : HostId) (f : Frame) : Moves s (handleReadConfig h f s) := by
  unfold handleReadConfig
  split
  · split
    · exact moves_respond ..
    · split
      · split
        · exact moves_refuse ..
        · exact moves_respond ..
      · exact moves_refuse ..
  · exact moves_refuse ..

/-! ### Transactions -/

theorem moves_selectFall (s : State) (h : HostId) : Moves s (s.selectFall h) := by
  rw [State.selectFall_eq]
  split
  · exact moves_withPort ..
  · exact .refl

end Sys2Proof
end

section
/-! The deeds of the commands that change what the moves leave: the scan, the filter and the level, sessions, proposals and
their adoption. -/

namespace Sys2Proof

open Machine

/-! ### The effects of an adoption -/

/-- The parts of an adoption of the change `ch` (R158 to R165). -/
inductive Effect (ch : Change) : State → State → Prop where
  | move {s t : State} (m : Move s t) : Effect ch s t
  /-- The straps are read (R2). -/
  | straps (s : State) (v : BitVec 2) : Effect ch s (s.readStraps v)
  /-- The configuration record is changed, both levels kept. -/
  | config (s : State) (k : Configuration) (normal : k.normal = s.config.normal) (derated : k.derated = s.config.derated)
      (legal : Change.InRange ch → Configuration.InRange s.config → Configuration.InRange k) : Effect ch s { s with config := k }
  /-- The configuration record is changed with its levels, and the total recomputed (R6). -/
  | level (s : State) (k : Configuration) (legal : Change.InRange ch → Configuration.InRange s.config → Configuration.InRange k) :
      Effect ch s (State.recompute .config { s with config := k })

/-- A run of effects. -/
abbrev Effects (ch : Change) : State → State → Prop := Relation.ReflTransGen (Effect ch)

theorem effects_moves {ch : Change} {s t : State} (m : Moves s t) : Effects ch s t :=
  Relation.ReflTransGen.mono (fun _ _ => Effect.move) s t m

theorem effects_acts {ch : Change} {s t : State} (a : Acts s t) : Effects ch s t := effects_moves (moves_acts a)

/-- The defaults lie in their ranges (R143). -/
theorem inRange_default (straps : BitVec 2) : Configuration.InRange (Configuration.default straps) := by
  refine ⟨?_, fun c => ?_, fun h => ?_, by decide +revert, by decide +revert, by decide +revert⟩
  · revert straps; decide
  · simp [Configuration.default, ChannelConfig.InRange, Config.ceilingDefault, Config.amountMax, Config.rampDefault,
      Config.holdoffDefault, Config.retryDefault]
  · simp [Configuration.default, Config.capDefault, Config.powerMax]

/-- One channel's settings replaced by others in range. -/
theorem inRange_withSettings {k : Configuration} (legal : Configuration.InRange k) {c : ChanId} {f : ChannelConfig → ChannelConfig}
    (settings : ChannelConfig.InRange (f (k.channels.read c))) : Configuration.InRange { k with channels := k.channels.upd c f } := by
  obtain ⟨levels, channels, rest⟩ := legal
  refine ⟨levels, fun d => ?_, rest⟩
  rw [Table.read_upd]
  split
  · next h => subst h; exact settings
  · exact channels d

theorem effects_adopt (s : State) (straps : BitVec 2) (ch : Change) : Effects ch s (s.adopt straps ch) := by
  cases ch with
  | setBudget n d =>
    refine .single (.level s { s.config with normal := n, derated := d } fun legal k => ?_)
    exact ⟨legal, k.2⟩
  | setCeiling c v =>
    refine .trans (.single (.config s (s.withSettings c fun k => { k with ceiling := v }).config rfl rfl fun legal k => ?_))
      (effects_acts (acts_failAndScan _ _ _))
    obtain ⟨-, rest⟩ := k.2.1 c
    exact inRange_withSettings k ⟨legal, rest⟩
  | setChannelTiming c r o l p =>
    refine .single (.config s _ rfl rfl fun legal k => ?_)
    exact inRange_withSettings k ⟨(k.2.1 c).1, legal⟩
  | setHostCap h v =>
    refine .trans (.single (.config s { s.config with caps := s.config.caps.upd h fun _ => v } rfl rfl fun legal k => ?_))
      (effects_acts ?_)
    · obtain ⟨levels, channels, caps, rest⟩ := k
      refine ⟨levels, channels, fun j => ?_, rest⟩
      rw [Table.read_upd]
      split
      · exact legal
      · exact caps j
    · rw [State.adopt, State.adoptCap]
      dsimp only
      split
      · exact (acts_failEntries ..).trans (acts_scanQueue _)
      · exact acts_failEntries ..
  | setLease p =>
    refine .single (.config s _ rfl rfl fun legal k => ?_)
    obtain ⟨levels, channels, caps, -, rest⟩ := k
    exact ⟨levels, channels, caps, legal, rest⟩
  | setQueueAge a =>
    refine .trans (.single (.config s { s.config with blockingAge := a } rfl rfl fun legal k => ?_)) (effects_moves ?_)
    · obtain ⟨levels, channels, caps, lease, -, averaging⟩ := k
      exact ⟨levels, channels, caps, lease, legal, averaging⟩
    · rw [State.adopt, State.adoptQueueAge]
      dsimp only
      split
      · exact (moves_judgeHead _).trans (moves_acts (acts_scanQueue _))
      · exact moves_judgeHead _
  | setAveraging n =>
    refine .trans (.single (.config s { s.config with averaging := n } rfl rfl fun legal k => ?_))
      (effects_moves (moves_restartRings _))
    obtain ⟨levels, channels, caps, lease, age, -⟩ := k
    exact ⟨levels, channels, caps, lease, age, legal⟩
  | clearChannelFault c =>
    rw [State.adopt, State.adoptClearFault]
    split
    · next state => exact effects_moves (moves_turn (.mend state))
    · exact .refl
  | forceRelease c n =>
    rw [State.adopt, State.adoptForceRelease]
    split
    · exact .refl
    · split
      · exact effects_acts (acts_releaseGrant ..)
      · exact .refl
  | resetPart =>
    have emptied : Acts (s.readStraps straps)
        (((s.readStraps straps).failEntries (fun _ => true) .reset).releaseAll (fun _ => true) .reset) :=
      (acts_failEntries ..).trans (acts_releaseAll ..)
    exact .trans (.trans (.single (.straps s straps)) (effects_acts emptied))
      (.trans (.single (.level _ (Configuration.default straps) fun _ _ => inRange_default straps))
        (effects_moves ((moves_restartRings _).tail (.tallies ..))))

/-! ### Deeds -/

/-- A proposal without the vote of host h, none when h is its proposer (R155). -/
def withoutVote (h : HostId) (p : Proposal) : Option Proposal :=
  if p.electorate.read h = false then some p
  else if p.proposer = h then none
  else some { p with electorate := p.electorate.upd h fun _ => false, consents := p.consents.upd h fun _ => false }

/-- The parts of every command but the three resets. -/
inductive Deed : State → State → Prop where
  | move {s t : State} (m : Move s t) : Deed s t
  /-- The slot in progress completes (R97). -/
  | advance (s : State) (sc : Scan) (scan : s.scan = some sc) : Deed s (s.advanceScan sc)
  /-- A round is counted (R115). -/
  | round (s : State) (c : ChanId) (scan : s.scan.isSome = true) : Deed s (s.countRound c)
  /-- The DERATE pin moves, and the hold timer starts or stops (R3). -/
  | pin (s : State) (level : Bool) (hold : Option Nat) :
      Deed s { s with pins := { s.pins with derate := level }, budget := { s.budget with derateHold := hold } }
  /-- The other level of DERATE is taken (R5). -/
  | derate (s : State) (e : Nat) (hold : s.budget.derateHold = some e) (k : BudgetCause) :
      Deed s ((s.withFilter (!s.budget.derateTaken) none).recompute k)
  /-- A session opens (R130). -/
  | attach (s : State) (h : HostId) (state : (s.session h).state = .detached) : Deed s (s.openSession h)
  /-- A session closes, its moves of teardown are made, and its vote leaves the open proposal (R131, R135, R137, R155). -/
  | depart {s u : State} (h : HostId) (k : CloseCause) (att : s.attached h = true)
      (m : Moves (s.withSession h fun r => { r with state := .closing, lease := none, lastClose := k }) u) :
      Deed s (u.withProposal (u.proposal.bind (withoutVote h)))
  /-- A proposal opens (R150). -/
  | propose (s : State) (h : HostId) (ch : Change) (att : s.attached h = true)
      (elector : (s.electorateFor ch).read h = true) (legal : Change.InRange ch) :
      Deed s (s.advanceProposal.withProposal (some (s.proposalFor h ch)))
  /-- An elector consents (R151). -/
  | consent (s : State) (h : HostId) (p : Proposal) (is : s.proposal = some p) (elector : p.electorate.read h = true) :
      Deed s (s.withProposal (some { p with consents := p.consents.upd h fun _ => true }))
  /-- The open proposal closes (R156). -/
  | shut (s : State) : Deed s (s.withProposal none)
  /-- A change is adopted: that of the open proposal, or of one checked in this event (R150, R156). -/
  | adopt {s t : State} (ch : Change) (source : Change.InRange ch ∨ ∃ p, s.proposal = some p ∧ p.change = ch)
      (effects : Effects ch (s.withProposal none) t) : Deed s t

/-- A run of deeds. -/
abbrev Deeds : State → State → Prop := Relation.ReflTransGen Deed

theorem deeds_moves {s t : State} (m : Moves s t) : Deeds s t :=
  Relation.ReflTransGen.mono (fun _ _ => Deed.move) s t m

/-! ### Slots -/

theorem deeds_completeSlot (s : State) (c : ChanId) (r : Reading) : Deeds s (s.completeSlot c r) := by
  unfold State.completeSlot
  split
  · exact .refl
  · next sc scan =>
    split
    · have sampled := moves_sampleEvent (s.advanceScan sc) c (sampleOf r)
      refine .tail (.trans (.single (.advance s sc scan)) (deeds_moves sampled)) (.round _ c ?_)
      rw [sampled.calm.scan]
      rfl
    · exact .refl

/-! ### Proposals -/

theorem deeds_adoptProposal {s : State} (straps : BitVec 2) {p : Proposal}
    (source : Change.InRange p.change ∨ ∃ q, s.proposal = some q ∧ q.change = p.change) :
    Deeds s (s.adoptProposal straps p) :=
  .trans (.single (.adopt p.change source (effects_adopt _ straps p.change))) (deeds_moves (moves_acts (acts_broadcast ..)))

theorem deeds_closeProposal (s : State) (p : Proposal) (o : CloseOutcome) (d : Option HostId) :
    Deeds s (s.closeProposal p o d) :=
  .trans (.single (.shut s)) (deeds_moves (moves_acts (acts_broadcast ..)))

theorem moves_postOpened (s : State) (p : Proposal) : Moves s (s.postOpened p) := by
  unfold State.postOpened
  generalize allHosts = l
  induction l generalizing s with
  | nil => exact .refl
  | cons k rest ih =>
    refine .trans ?_ (ih _)
    dsimp only
    split
    · exact moves_acts (acts_post ..)
    · exact .refl

/-- A FORCE_RELEASE that passes R149's checks is not of the proposer's own grant. -/
theorem forceCheck_eq_ok {s : State} {h : HostId} {c : ChanId} {n : Nat} {ch : Change}
    (valid : s.forceCheck h c n = .ok ch) : ch = .forceRelease c n ∧ s.holds h c = false := by
  unfold State.forceCheck at valid
  split at valid
  · cases valid
  · split at valid
    · cases valid
    · next g slot =>
      split at valid
      · cases valid
      · split at valid
        · cases valid
        · next other =>
          cases valid
          exact ⟨rfl, by simp [State.holds, slot, other]⟩

/-- A change that passes R149's checks is in range, and a FORCE_RELEASE is not of the proposer's own grant. -/
theorem validate_eq_ok {s : State} {h : HostId} {raw : RawChange} {ch : Change} (valid : s.validate h raw = .ok ch) :
    Change.InRange ch ∧ ∀ c n, ch = .forceRelease c n → s.holds h c = false := by
  cases raw <;> simp only [State.validate] at valid
  case forceRelease c n =>
    split at valid
    · cases valid
    · obtain ⟨rfl, other⟩ := forceCheck_eq_ok valid
      exact ⟨trivial, fun _ _ e => by cases e; exact other⟩
  case resetPart =>
    cases valid
    exact ⟨trivial, fun _ _ e => nomatch e⟩
  case setCeiling =>
    split at valid
    · cases valid
    · split at valid
      · next range =>
        cases valid
        exact ⟨range, fun _ _ e => nomatch e⟩
      · cases valid
  case setChannelTiming =>
    split at valid
    · cases valid
    · split at valid
      · next range =>
        obtain ⟨ramp, ramp', holdoff, holdoff', retry, -⟩ := range
        cases valid
        exact ⟨⟨⟨ramp, ramp'⟩, ⟨holdoff, holdoff'⟩, retry⟩, fun _ _ e => nomatch e⟩
      · cases valid
  case clearChannelFault =>
    split at valid
    · cases valid
    · split at valid
      · cases valid
        exact ⟨trivial, fun _ _ e => nomatch e⟩
      · cases valid
  case setHostCap =>
    split at valid
    · split at valid
      · next range =>
        cases valid
        exact ⟨range, fun _ _ e => nomatch e⟩
      · cases valid
    · cases valid
  case setBudget =>
    split at valid
    · next range =>
      cases valid
      exact ⟨⟨range.1, range.2.2⟩, fun _ _ e => nomatch e⟩
    · cases valid
  case setLease | setQueueAge | setAveraging =>
    split at valid
    · next range =>
      cases valid
      exact ⟨range, fun _ _ e => nomatch e⟩
    · cases valid

/-- An elector is attached (R150). -/
theorem attached_of_elector {s : State} {ch : Change} {h : HostId} (elector : (s.electorateFor ch).read h = true) :
    s.attached h = true := by
  rcases host_cases h with rfl | rfl | rfl | rfl <;>
    exact (Bool.and_eq_true_iff.1 (by simpa [State.electorateFor, allHosts, Table.read_upd] using elector)).1

/-- An attached host that does not hold the grant a FORCE_RELEASE names is an elector (R150). -/
theorem elector_of_attached {s : State} {ch : Change} {h : HostId} (att : s.attached h = true)
    (other : ∀ c n, ch = .forceRelease c n → s.holds h c = false) : (s.electorateFor ch).read h = true := by
  have apart : ∀ c n, ch = .forceRelease c n → (!s.holds h c) = true := fun c n e => by simp [other c n e]
  rcases host_cases h with rfl | rfl | rfl | rfl <;>
    cases ch <;> simp_all [State.electorateFor, allHosts, Table.read_upd]

/-- An attached host is an elector of the change it may propose (R150). -/
theorem elector_of_validate {s : State} {h : HostId} {raw : RawChange} {ch : Change} (att : s.attached h = true)
    (valid : s.validate h raw = .ok ch) : (s.electorateFor ch).read h = true :=
  elector_of_attached att (validate_eq_ok valid).2

theorem deeds_openProposal {s : State} (straps : BitVec 2) {h : HostId} (f : Frame) {ch : Change} (att : s.attached h = true)
    (elector : (s.electorateFor ch).read h = true) (legal : Change.InRange ch) :
    Deeds s (s.openProposal straps h f ch) := by
  unfold State.openProposal
  dsimp only
  split
  · exact .trans (.trans (.single (.move (.number s))) (deeds_adoptProposal straps (.inl legal)))
      (deeds_moves (moves_respond ..))
  · exact .trans (.single (.propose s h ch att elector legal))
      (deeds_moves ((moves_postOpened ..).trans (moves_respond ..)))

theorem deeds_handlePropose {s : State} (straps : BitVec 2) {h : HostId} (f : Frame) (att : s.attached h = true) :
    Deeds s (handlePropose straps h f s) := by
  unfold handlePropose
  split
  · exact deeds_moves (moves_refuse ..)
  · split
    · exact deeds_moves (moves_refuse ..)
    · split
      · exact deeds_moves (moves_refuse ..)
      · next ch valid => exact deeds_openProposal straps f att (elector_of_validate att valid) (validate_eq_ok valid).1

theorem openWithId_eq_some {s : State} {id : Nat} {p : Proposal} (is : s.openWithId id = some p) :
    s.proposal = some p := by
  unfold State.openWithId at is
  split at is
  · cases is
  · next q open' =>
    split at is
    · rw [open', ← is]
    · cases is

theorem deeds_withOpen {s : State} {h : HostId} {f : Frame} {act : Proposal → State → State}
    (acts : ∀ p, s.proposal = some p → Deeds s (act p s)) : Deeds s (s.withOpen h f act) := by
  unfold State.withOpen
  split
  · split
    · exact deeds_moves (moves_refuse ..)
    · next p is => exact acts p (openWithId_eq_some is)
  · exact deeds_moves (moves_refuse ..)

theorem deeds_handleConsent (s : State) (straps : BitVec 2) (h : HostId) (f : Frame) :
    Deeds s (handleConsent straps h f s) := by
  refine deeds_withOpen fun p is => ?_
  unfold State.consentTo
  split
  · exact deeds_moves (moves_refuse ..)
  · next elector =>
    rw [Bool.not_eq_false] at elector
    split
    · exact deeds_moves (moves_respond ..)
    · dsimp only
      have given : Deed s (s.withProposal (some { p with consents := p.consents.upd h fun _ => true })) :=
        .consent s h p is elector
      split
      · exact .trans (deeds_adoptProposal straps (.inr ⟨p, is, rfl⟩)) (deeds_moves (moves_respond ..))
      · exact .trans (.single given) (deeds_moves (moves_respond ..))

theorem deeds_handleDissent (s : State) (h : HostId) (f : Frame) : Deeds s (handleDissent h f s) := by
  refine deeds_withOpen fun p _ => ?_
  split
  · exact deeds_moves (moves_refuse ..)
  · exact .trans (deeds_closeProposal ..) (deeds_moves (moves_respond ..))

theorem deeds_handleWithdraw (s : State) (h : HostId) (f : Frame) : Deeds s (handleWithdraw h f s) := by
  refine deeds_withOpen fun p _ => ?_
  split
  · exact .trans (deeds_closeProposal ..) (deeds_moves (moves_respond ..))
  · exact deeds_moves (moves_refuse ..)

/-! ### Sessions -/

/-- The consent unit's part in a teardown: the vote leaves, then the proposal is adopted or its closing is broadcast (R155). -/
theorem deeds_consentTeardown (s : State) (straps : BitVec 2) (h : HostId) :
    Deeds (s.withProposal (s.proposal.bind (withoutVote h))) (s.consentTeardown straps h) := by
  unfold State.consentTeardown
  split
  · next no =>
    have same : s.withProposal (s.proposal.bind (withoutVote h)) = s := by
      rw [no, Option.bind_none, State.withProposal, ← no]
    rw [same]
  · next p is =>
    rw [is, Option.bind_some, withoutVote]
    split
    · have same : s.withProposal (some p) = s := by rw [State.withProposal, ← is]
      rw [same]
    · split
      · exact deeds_moves (moves_acts (acts_broadcast ..))
      · unfold State.settleProposal
        split
        · exact .trans (.single (.adopt _ (.inr ⟨_, rfl, rfl⟩) (effects_adopt (s.withProposal none) straps _)))
            (deeds_moves (moves_acts (acts_broadcast ..)))
        · exact .refl

theorem deeds_closeSession {s : State} {h : HostId} (straps : BitVec 2) (k : CloseCause) (att : s.attached h = true) :
    Deeds s (s.closeSession straps h k) := by
  let u := s.withSession h fun r => { r with state := .closing, lease := none, lastClose := k }
  have cleared : Moves u (((u.flush h).queueTeardown h).releaseAll (·.owner == h) .teardown) :=
    ((moves_flush ..).trans (moves_acts (acts_queueTeardown ..))).trans (moves_acts (acts_releaseAll ..))
  exact .tail (.trans (.single (.depart h k att cleared)) (deeds_consentTeardown ..)) (.move (.act (.close ..)))

theorem deeds_handleDetach {s : State} (straps : BitVec 2) {h : HostId} (f : Frame) (att : s.attached h = true) :
    Deeds s (handleDetach straps h f s) := by
  unfold handleDetach
  rw [bodiless_eq]
  split
  · exact .trans (deeds_closeSession straps .detached att) (deeds_moves (moves_respond ..))
  · exact deeds_moves (moves_refuse ..)

theorem deeds_handleAttach (s : State) (h : HostId) (f : Frame) : Deeds s (handleAttach h f s) := by
  unfold handleAttach
  split
  · next state =>
    split
    · exact .trans (.single (.attach s h state)) (deeds_moves (moves_respond ..))
    · exact deeds_moves (moves_refuse ..)
  · exact deeds_moves (moves_refuse ..)
  · exact deeds_moves (moves_refuse ..)

/-! ### The request rows -/

/-- A request row does what its handling does, on the state after the taking; a kind that is not always served is handled for
an attached host alone (R186). -/
theorem deeds_taking {s : State} {k : RequestKind} {handle : HostId → Frame → State → State}
    (handled : ∀ h f, (k.servedAlways = false → (taken s h).attached h = true) →
      Deeds (taken s h) (handle h f (taken s h))) : Deeds s (s.taking k handle) := by
  by_cases n : ∃ h f, Next k s h f
  · obtain ⟨h, f, n⟩ := n
    refine .trans (.single (.move (.take s h f n.1))) ?_
    by_cases att : s.attached h = true
    · rw [taking_served ⟨n, att⟩]
      exact handled h f fun _ => by simpa using att
    · cases always : k.servedAlways with
      | true =>
        rw [taking_always n always]
        exact handled h f fun other => by simp [always] at other
      | false =>
        rw [taking_unattached n always (by simpa using att)]
        exact deeds_moves (moves_refuse ..)
  · rw [taking_otherwise fun h f m => n ⟨h, f, m⟩]

/-- A request row whose handling is a run of moves in every state. -/
theorem deeds_taking_moves {s : State} {k : RequestKind} {handle : HostId → Frame → State → State}
    (handled : ∀ h f t, Moves t (handle h f t)) : Deeds s (s.taking k handle) :=
  deeds_taking fun h f _ => deeds_moves (handled h f _)

theorem deeds_takingUnknown (s : State) : Deeds s s.takingUnknown := by
  unfold State.takingUnknown
  split
  · exact .refl
  · next h f next =>
    split
    · rw [takeFrame_renewLease]
      exact deeds_moves (.trans (.single (.take s h f next)) (moves_refuse ..))
    · exact .refl

/-! ### Every command -/

/-- The commands that reset the part. -/
def Instr.resets : Instr → Bool
  | .powerOn _ | .resetFall _ | .resetRelease _ => true
  | _ => false

/-- An expiry whose timer runs is a run of moves after the clock has reached it. -/
theorem deeds_reach {s t : State} (e : Nat) (m : Moves (s.reach e) t) : Deeds s t := deeds_moves ((moves_reach s e).trans m)

/-- Every command but a reset is a run of deeds. -/
theorem deeds_exec {i : Instr} {s t : State} (other : i.resets = false) (run : exec i s = .next t) : Deeds s t := by
  cases i <;> cases run
  case powerOn | resetFall | resetRelease => cases other
  case startUpEnd | overdrawCountFull | idleFaultLimit =>
    split
    · exact deeds_completeSlot ..
    · exact .refl
  case slotCompletion => exact deeds_completeSlot ..
  case deratePinChange level =>
    split
    · exact .refl
    · dsimp only
      split
      · exact .single (.pin s level s.budget.derateHold)
      · exact .single (.pin s level _)
  case derateHoldExpiry =>
    split
    · exact .refl
    · next e hold => exact .trans (deeds_moves (moves_reach s e)) (.single (.derate (s.reach e) e hold _))
  case rampTimerExpiry | graceTimerExpiry =>
    split
    · exact .refl
    · next e running => exact deeds_reach e (moves_trip (by simp [state_of_expiryOf running]) _)
  case holdoffTimerExpiry =>
    split
    · exact .refl
    · next e running =>
      exact deeds_reach e ((moves_turn (.retry (state_of_expiryOf running))).trans (moves_postHolder ..))
  case dischargeTimerExpiry =>
    split
    · exact .refl
    · next e running =>
      exact deeds_reach e (moves_acts (acts_endToFaulted _ _ (by simp [state_of_expiryOf running])))
  case leaseExpiry =>
    split
    · next att =>
      split
      · exact .refl
      · next e _ => exact .trans (deeds_moves (moves_reach s e)) (deeds_closeSession _ _ att)
    · exact .refl
  case windowTimerExpiry =>
    split
    · exact .refl
    · next p _ => exact .trans (deeds_moves (moves_reach s p.window)) (deeds_closeProposal ..)
  case blockingTimerExpiry =>
    split
    · exact .refl
    · next e _ => exact deeds_reach e (.single (.flags ..))
  case deadlineExpiry =>
    split
    · exact .refl
    · split
      · exact .refl
      · next e _ =>
        exact deeds_reach e (((moves_takeOut ..).trans (moves_acts (acts_post ..))).trans (moves_acts (acts_scanQueue _)))
  case status =>
    split
    · exact deeds_moves (moves_selectFall ..)
    · split <;> exact deeds_moves (moves_withPort ..)
  case unknownTransaction =>
    split
    · split
      · exact deeds_moves (moves_selectFall ..)
      · exact deeds_moves (moves_withPort ..)
    · exact .refl
  case request | peek =>
    split
    · exact deeds_moves (moves_selectFall ..)
    · exact deeds_moves (moves_withPort ..)
  case take =>
    split
    · exact deeds_moves (moves_selectFall ..)
    · exact deeds_moves ((moves_withPort ..).tail (.outboxes ..))
  case outboxHeadFix =>
    split
    · exact .refl
    · exact deeds_moves (moves_withPort ..)
  case unknownRequestKind => exact deeds_takingUnknown s
  case queryPart | renew | readSession | readBudget | readQueue | readProposal =>
    exact deeds_taking_moves fun h f t => moves_bodiless (moves_respond ..)
  case attach => exact deeds_taking fun h f _ => deeds_handleAttach ..
  case detach => exact deeds_taking fun h f att => deeds_handleDetach _ f (att rfl)
  case claim => exact deeds_taking fun h f att => deeds_moves (moves_handleClaim f (att rfl))
  case cancel => exact deeds_taking_moves fun h f t => moves_handleCancel ..
  case resize => exact deeds_taking_moves fun h f t => moves_handleResize ..
  case release => exact deeds_taking_moves fun h f t => moves_handleRelease ..
  case clearTrip => exact deeds_taking_moves fun h f t => moves_handleClearTrip ..
  case readChannel => exact deeds_taking_moves fun h f t => moves_handleReadChannel ..
  case readTally => exact deeds_taking_moves fun h f t => moves_handleReadTally ..
  case readConfig => exact deeds_taking_moves fun h f t => moves_handleReadConfig ..
  case propose => exact deeds_taking fun h f att => deeds_handlePropose _ f (att rfl)
  case consent => exact deeds_taking fun h f _ => deeds_handleConsent ..
  case dissent => exact deeds_taking fun h f _ => deeds_handleDissent ..
  case withdraw => exact deeds_taking fun h f _ => deeds_handleWithdraw ..

/-- A law that every deed keeps is kept by every run of deeds. -/
theorem Deeds.keeps {law : State → Prop} (deed : ∀ s t, law s → Deed s t → law t) {s t : State} (d : Deeds s t) (l : law s) :
    law t := by
  induction d with
  | refl => exact l
  | tail _ a ih => exact deed _ _ ih a

/-- A law that does not see the queue of commands, that holds after every reset, and that every deed keeps, is kept by every
step. -/
theorem kept_of_deeds {law : State → Prop} (unqueued : ∀ s p, law s → law { s with pending := p })
    (resets : ∀ i s t, Instr.resets i = true → law s → exec i s = .next t → law t)
    (deed : ∀ s t, law s → Deed s t → law t) : Kept law := by
  intro s t l run
  unfold step at run
  split at run
  · cases run
    exact deed _ _ l (.move (.later s _ (Nat.le_succ _)))
  · next i rest _ =>
    have l' := unqueued s rest l
    cases kind : i.resets with
    | true => exact resets i _ t kind l' run
    | false => exact (deeds_exec kind run).keeps deed l'

end Sys2Proof
end

section
/-! Power-on, the two edges of RESET and the DERATE pin: the states they give, and the laws they leave in force. -/

namespace Sys2Proof

open Machine

/-! ### What a reset makes of the blocks -/

/-- Every block but the ports and the measurement records is in its reset state. -/
theorem resetBlocks_eq (s : State) (ports : Port → Port) (straps : BitVec 2) :
    s.resetBlocks ports straps =
      { State.reset with
        pending := s.pending
        now := s.now
        pins := { s.pins with straps := straps }
        budget := Budget.initial straps
        config := Configuration.default straps
        scan := none
        rounds := s.rounds
        ports := (s.resetBlocks ports straps).ports
        meas := (s.resetBlocks ports straps).meas } := by
  unfold State.resetBlocks
  rw [State.mapMeasures_eq, State.mapPorts_eq]
  rfl

theorem mapPorts_measure (s : State) (f : Port → Port) (c : ChanId) : (s.mapPorts f).measure c = s.measure c := by
  rw [State.mapPorts_eq]
  simp only [State.measure]

theorem mapMeasures_port (s : State) (f : Measurement → Measurement) (h : HostId) : (s.mapMeasures f).port h = s.port h := by
  rw [State.mapMeasures_eq]
  simp only [State.port]

theorem resetBlocks_port (s : State) (ports : Port → Port) (straps : BitVec 2) (h : HostId) :
    (s.resetBlocks ports straps).port h = ports (s.port h) := by
  unfold State.resetBlocks
  rw [mapMeasures_port, State.mapPorts_port]
  simp only [State.port]

theorem resetBlocks_measure (s : State) (ports : Port → Port) (straps : BitVec 2) (c : ChanId) :
    (s.resetBlocks ports straps).measure c = (s.measure c).cleared := by
  unfold State.resetBlocks
  rw [State.mapMeasures_measure, mapPorts_measure]
  simp only [State.measure]

/-- The state in which start-up begins, with its ports (R97, R115, R190). -/
def started (s : State) (straps : BitVec 2) (ports : Table 4 Port) : State :=
  { State.reset with
    pending := s.pending
    now := s.now
    pins := { straps := straps, derate := s.pins.derate, resetLow := false }
    budget := { Budget.initial straps with derateHold := if s.pins.derate then some (s.now + ms Config.derateHold) else none }
    config := Configuration.default straps
    scan := some { slot := 0, ends := s.now + 1 }
    ports := ports }

theorem started_port (s : State) (straps : BitVec 2) (ports : Table 4 Port) (h : HostId) :
    (started s straps ports).port h = ports.read h := rfl

theorem beginStartUp_eq {s : State} {straps : BitVec 2} (budget : s.budget = Budget.initial straps) :
    s.beginStartUp =
      { s with
        scan := some { slot := 0, ends := s.now + 1 }
        rounds := 0
        meas := State.reset.meas
        budget :=
          { s.budget with
            derateHold := if s.pins.derate then some (s.now + ms Config.derateHold) else none } } := by
  have clear : s.budget.derateTaken = false := by rw [budget]; rfl
  have blank : Table.const 8 Measurement.blank.cleared = State.reset.meas := rfl
  cases h : s.pins.derate <;> simp [State.beginStartUp, State.observeDerate, State.withFilter, clear, h, blank]

theorem execPowerOn_eq (straps : BitVec 2) (s : State) :
    execPowerOn straps s = .next (started s straps State.reset.ports) := by
  rw [execPowerOn, resetBlocks_eq, beginStartUp_eq (straps := straps) rfl]
  rfl

theorem execResetRelease_eq (straps : BitVec 2) {s : State} (low : s.pins.resetLow = true) :
    execResetRelease straps s = .next (started s straps (s.resetBlocks Port.emptied straps).ports) := by
  rw [execResetRelease, if_pos low]
  dsimp only
  rw [resetBlocks_eq, beginStartUp_eq (straps := straps) rfl]
  rfl

/-- The state in which RESET held low leaves the part, with its ports and measurement records (R141). -/
def fallen (s : State) (straps : BitVec 2) (ports : Table 4 Port) (meas : Table 8 Measurement) : State :=
  { State.reset with
    pending := s.pending
    now := s.now
    pins := { straps := straps, derate := s.pins.derate, resetLow := true }
    budget := Budget.initial straps
    config := Configuration.default straps
    scan := none
    rounds := s.rounds
    ports := ports
    meas := meas }

theorem fallen_port (s : State) (straps : BitVec 2) (ports : Table 4 Port) (meas : Table 8 Measurement) (h : HostId) :
    (fallen s straps ports meas).port h = ports.read h := rfl

theorem fallen_measure (s : State) (straps : BitVec 2) (ports : Table 4 Port) (meas : Table 8 Measurement) (c : ChanId) :
    (fallen s straps ports meas).measure c = meas.read c := rfl

theorem execResetFall_eq (straps : BitVec 2) {s : State} (high : s.pins.resetLow = false) :
    execResetFall straps s = .next
      (fallen s straps (s.resetBlocks Port.fallen straps).ports (s.resetBlocks Port.fallen straps).meas) := by
  rw [execResetFall, high, if_neg Bool.false_ne_true]
  dsimp only
  rw [resetBlocks_eq]
  rfl

/-! ### The claims about the resets -/

/-- Settles O3: both commands give the state `started`, with the ports of power-on or the emptied ones. -/
theorem powerOnAndReleaseStartEveryBlockAfresh : Obligations.PowerOnAndReleaseStartEveryBlockAfresh := by
  refine ⟨fun straps s => execPowerOn_eq straps s, fun straps s low => ?_⟩
  refine ⟨_, execResetRelease_eq straps low, fun h => ?_, execPowerOn_eq straps s⟩
  rw [started_port]
  exact resetBlocks_port s Port.emptied straps h

/-- Settles O4: the fall gives the state `fallen`, with each port and each measurement record changed in its place. -/
theorem resetFallEmptiesEveryBlock : Obligations.ResetFallEmptiesEveryBlock := by
  intro straps s high
  refine ⟨_, execResetFall_eq straps high, fun h => ?_, fun c => ?_, rfl⟩
  · rw [fallen_port]
    exact resetBlocks_port s Port.fallen straps h
  · rw [fallen_measure]
    exact resetBlocks_measure s Port.fallen straps c

/-- Settles O8, by the two cases of the level and the two of RESET. -/
theorem deratePinStartsAndCancelsTheHold : Obligations.DeratePinStartsAndCancelsTheHold := by
  intro s level
  refine ⟨fun same => ?_, fun moved => ?_⟩
  · change execDeratePinChange level s = _
    rw [execDeratePinChange, if_pos same]
  · change execDeratePinChange level s = _
    rw [execDeratePinChange, if_neg moved]
    cases low : s.pins.resetLow <;> simp [State.observeDerate, State.withFilter]
    rfl

/-! ### The laws in the state after reset -/

theorem noProposal_laws {s : State} (none : s.proposal = none) :
    ConsentLaw s ∧ (Configuration.InRange s.config → ConfigLaw s) := by
  refine ⟨fun p is => ?_, fun legal => ⟨legal, fun p is => ?_⟩⟩ <;> simp [none] at is

theorem empty_reset (c : ChanId) : State.reset.slot c = none := by simp [State.slot, State.reset]

theorem idle_reset (c : ChanId) :
    State.reset.chan c = { state := .idle, gate := false, timer := none, retries := 0, idleFaults := 0 } := by
  simp [State.chan, State.reset]

theorem ledgerLaw_reset : LedgerLaw State.reset := by
  unfold LedgerLaw TableLaw SlotLaw AdmissionLaw ItemsLaw AccountLaw PositiveLaw
  decide

theorem budgetLaw_reset : BudgetLaw State.reset :=
  (budgetLaw_iff _).2 ⟨ledgerLaw_reset, withinTotal_of_no_firm fun c => by simp [firm, empty_reset]⟩

theorem configLaw_reset : ConfigLaw State.reset := (noProposal_laws rfl).2 (inRange_default 0#2)

theorem legal_reset (c : ChanId) : Channel.Legal (State.reset.chan c) := by
  simp [idle_reset, Channel.Legal, Channel.TimerFits, Config.idleFaultLimit]

theorem outboxLaw_reset : OutboxLaw State.reset := by
  intro h
  have box : State.reset.outbox h = [] := by simp [State.outbox, State.reset]
  have buffer : (State.reset.port h).buffer = none := by simp [State.port, State.reset]
  rw [box, buffer]
  exact ⟨by decide, by decide, fun front e back split => by simp at split⟩

/-- Settles O5: the state is `started` from itself, and its records, empty or at their defaults, meet each law. -/
theorem resetStateIsPowerOnsAndMeetsEveryLaw : Obligations.ResetStateIsPowerOnsAndMeetsEveryLaw := by
  have empty {c : ChanId} {g : Grant} (slot : State.reset.slot c = some g) : False := by simp [empty_reset] at slot
  refine ⟨(execPowerOn_eq 0#2 State.reset).trans rfl, ?gate, budgetLaw_reset, rfl,
    ⟨by decide, fun c g slot => (empty slot).elim, fun c d g k slot => (empty slot).elim⟩, ?overdraw, ?ring, ?peak, ?tally,
    ?queue, ?naming, ⟨configLaw_reset, legal_reset⟩, ⟨rfl, rfl⟩, ?lease,
    ⟨ledgerLaw_reset.1, fun c g slot => (empty slot).elim, fun e m => nomatch m⟩, (noProposal_laws rfl).1, configLaw_reset,
    outboxLaw_reset, ?startUp, fun low => nomatch low⟩
  case gate => unfold GateLaw; decide
  case overdraw => unfold OverdrawLaw; decide
  case ring => unfold RingLaw; decide
  case peak => unfold PeakLaw; decide
  case tally => unfold TallyLaw; decide
  case queue => unfold QueueLaw; decide
  case naming => unfold NamingLaw; decide
  case lease => unfold LeaseLaw; decide
  case startUp => unfold StartUpLaw; decide

end Sys2Proof
end

section
/-! The law of the budget through every step (R8 to R10): it is kept by every act, every move, every effect of an adoption and
every deed. -/

namespace Sys2Proof

open Machine

/-! ### What sees no ledger -/

/-- A change of a channel record that neither frees the channel nor begins or ends a discharge. -/
theorem Turn.standing {now : Nat} {k : ChannelConfig} {ch ch' : Channel} (turn : Turn now k ch ch') :
    (ch'.state = .idle ∨ ch'.state = .faulted ↔ ch.state = .idle ∨ ch.state = .faulted) ∧
      (ch'.state = .discharging ↔ ch.state = .discharging) := by
  cases turn with
  | off state | count state _ | ramp state | good state | steady state | grace state _ | retry state | mend state =>
    simp [state, Channel.rest]
  | trip state =>
    rcases state with state | state <;> simp only [state, Channel.tripped] <;> split <;> simp
  | clear state => rcases state with state | state <;> simp [state]

/-- What a session, a proposal, the scan, the filter and the clock are does not enter the ledger. -/
theorem budgetLaw_of_same {s t : State} (law : BudgetLaw s) (same : SameLedger s t) : BudgetLaw t := by
  obtain ⟨ledger, within⟩ := (budgetLaw_iff s).1 law
  exact (budgetLaw_iff t).2 ⟨same.ledgerLaw ledger, same.withinTotal within⟩

theorem SameLedger.of_untouched {s t : State} (grants : t.grants = s.grants) (channels : t.channels = s.channels)
    (reserved : t.budget.reserved = s.budget.reserved) (releasing : t.budget.releasing = s.budget.releasing)
    (total : t.budget.total = s.budget.total) (queue : t.queue.entries = s.queue.entries) : SameLedger s t where
  grants := grants
  vacant c := by simp [State.chan, channels]
  leaving c := by simp [Sys2Proof.leaving, State.chan, channels]
  reserved := reserved
  releasing := releasing
  total := total
  entries := by simp [queue]

theorem sameLedger_turn {s : State} {c : ChanId} {ch : Channel} (turn : Turn s.now (s.settings c) (s.chan c) ch) :
    SameLedger s (s.withChannel c fun _ => ch) where
  grants := rfl
  vacant d := by
    rw [State.withChannel_chan]
    split
    · next h => subst h; exact turn.standing.1
    · rfl
  leaving d := by
    have := turn.standing.2
    unfold Sys2Proof.leaving
    rw [State.withChannel_chan]
    split
    · next h => subst h; by_cases e : (s.chan d).state = .discharging <;> simp_all
    · rfl
  reserved := rfl
  releasing := rfl
  total := rfl
  entries _ m := m

/-! ### Moves -/

theorem mem_placeEntry {e x : WaitEntry} {l : List WaitEntry} : x ∈ placeEntry e l ↔ x = e ∨ x ∈ l := by
  induction l with
  | nil => simp [placeEntry]
  | cons y rest ih =>
    rw [placeEntry]
    split
    · simp
    · simp only [List.mem_cons, ih]
      tauto

theorem budgetLaw_place {s : State} {e : WaitEntry} (law : BudgetLaw s) (distinct : (e.items.map Item.channel).Nodup)
    (positive : ∀ i ∈ e.items, 1 ≤ i.amount) : BudgetLaw (s.place e) := by
  obtain ⟨⟨slots, admission, items⟩, account, amounts, within⟩ := law
  have entries : (s.place e).queue.entries = placeEntry e s.queue.entries := by simp [State.place]
  have rest : s.place e = { s with queue := (s.place e).queue } := State.setEntries_eq ..
  have items' : ItemsLaw (s.place e) := fun x m => by
    rw [entries, mem_placeEntry] at m
    rcases m with rfl | m
    · exact distinct
    · exact items x m
  have amounts' : PositiveLaw (s.place e) := fun x m => by
    rw [entries, mem_placeEntry] at m
    rcases m with rfl | m
    · exact positive
    · exact amounts x m
  rw [rest] at items' amounts' ⊢
  exact ⟨⟨slots, admission, items'⟩, account, amounts', within⟩

section Amounts
variable (s : State) (c d : ChanId) (g : Grant) (amount : Nat)

theorem setAmount_slot :
    (s.setAmount c g amount).slot d = if d = c then (s.slot d).map fun r => { r with amount := amount } else s.slot d := by
  simp [State.setAmount, State.withSlot_slot]

@[simp] theorem setAmount_chan : (s.setAmount c g amount).chan d = s.chan d := rfl

@[simp] theorem setAmount_admission : (s.setAmount c g amount).grants.admission = s.grants.admission := rfl

@[simp] theorem setAmount_budget :
    (s.setAmount c g amount).budget = { s.budget with reserved := s.budget.reserved + amount - g.amount } := rfl

theorem setAmount_hostReserved (h : HostId) :
    (s.setAmount c g amount).hostReserved h =
      if h = g.owner then s.hostReserved h + amount - g.amount else s.hostReserved h := by
  simp [State.setAmount, State.withHostReserved_hostReserved]

end Amounts

/-- A resize that fits keeps the law of the budget (R27, R28). -/
theorem budgetLaw_setAmount {s : State} {c : ChanId} {g : Grant} {amount : Nat} (law : BudgetLaw s) (slot : s.slot c = some g)
    (state : (s.chan c).state ≠ .discharging)
    (fits : amount < g.amount ∨ g.amount < amount ∧ amount - g.amount ≤ s.free) : BudgetLaw (s.setAmount c g amount) := by
  obtain ⟨ledger, within⟩ := (budgetLaw_iff s).1 law
  obtain ⟨slots, ⟨nodup, members⟩, account, entries⟩ := (ledgerLaw_iff s).1 ledger
  obtain ⟨all, discharging, each⟩ := (accountLaw_iff s).1 account
  have same : SameBut c s (s.setAmount c g amount) := fun d ne => by simp [setAmount_slot, leaving, ne]
  have slotAt : (s.setAmount c g amount).slot c = some { g with amount := amount } := by simp [setAmount_slot, slot]
  have isSome (d : ChanId) : ((s.setAmount c g amount).slot d).isSome = (s.slot d).isSome := by
    rw [setAmount_slot]
    split <;> simp
  have held : g.amount ≤ s.budget.reserved := by
    have := share_le_sumOver s (fun _ => true) c
    rwa [share, if_pos rfl, amountIn_of_slot slot, ← all] at this
  refine (budgetLaw_iff _).2 ⟨(ledgerLaw_iff _).2 ⟨fun d => ?_, ⟨nodup, fun d => ?_⟩, ?_, entries⟩, ?_⟩
  · rw [← Option.not_isSome_iff_eq_none, isSome, Option.not_isSome_iff_eq_none]
    exact slots d
  · rw [isSome]
    exact members d
  · have stands : leaving s c = false := by simpa [leaving] using state
    refine accountLaw_of_change account same ?_ ?_ fun h => ?_
    · simp only [setAmount_budget, amountIn_of_slot slot, amountIn_of_slot slotAt]
      omega
    · have stands' : leaving (s.setAmount c g amount) c = false := stands
      simp [share, stands, stands']
    · have le := share_le_sumOver s (s.holds h) c
      rw [← each h] at le
      rw [setAmount_hostReserved]
      by_cases own : h = g.owner
      · subst own
        simp only [share, holds_of_slot slot, holds_of_slot slotAt, amountIn_of_slot slot, amountIn_of_slot slotAt,
          beq_self_eq_true, if_true] at le ⊢
        omega
      · simp [share, holds_of_slot slot, holds_of_slot slotAt, own, Ne.symm own]
  · have sum := same.sumOver_standing
    have stands : standing s c = true := by simpa [standing, leaving] using state
    have stands' : standing (s.setAmount c g amount) c = true := stands
    rw [withinTotal_iff] at within ⊢
    rw [share, share, stands, stands', amountIn_of_slot slot, amountIn_of_slot slotAt] at sum
    simp only [if_true] at sum
    have most := standing_le_reserved account
    have free : s.free = s.budget.total - s.budget.reserved := rfl
    simp only [setAmount_budget]
    omega

/-- Every move keeps the law of the budget. -/
theorem budgetLaw_move {s t : State} (m : Move s t) (law : BudgetLaw s) : BudgetLaw t := by
  cases m with
  | act a => exact budgetLaw_acts (.single a) law
  | place e _ distinct positive => exact budgetLaw_place law distinct positive
  | resize c g amount slot state _ fits => exact budgetLaw_setAmount law slot state fits
  | turn c ch turn => exact budgetLaw_of_same law (sameLedger_turn turn)
  | _ => exact budgetLaw_of_same law (.of_untouched rfl rfl rfl rfl rfl rfl)

theorem budgetLaw_moves {s t : State} (m : Moves s t) (law : BudgetLaw s) : BudgetLaw t :=
  m.keeps (fun _ _ l a => budgetLaw_move a l) law

/-! ### Deeds -/

/-- Every effect of an adoption keeps the law of the budget; a new level is shed down to (R10). -/
theorem budgetLaw_effects {ch : Change} {s t : State} (e : Effects ch s t) (law : BudgetLaw s) : BudgetLaw t := by
  induction e with
  | refl => exact law
  | @tail u _ _ e ih =>
    cases e with
    | move m => exact budgetLaw_move m ih
    | straps v => exact budgetLaw_of_same ih (.of_untouched rfl rfl rfl rfl rfl rfl)
    | config k => exact budgetLaw_of_same ih (.of_untouched rfl rfl rfl rfl rfl rfl)
    | level k =>
      obtain ⟨ledger, within⟩ := (budgetLaw_iff _).1 ih
      exact budgetLaw_recompute (s := { u with config := k }) ledger within .config

/-- Every deed keeps the law of the budget. -/
theorem budgetLaw_deed {s t : State} (law : BudgetLaw s) (d : Deed s t) : BudgetLaw t := by
  have untouched {u : State} (grants : u.grants = s.grants) (channels : u.channels = s.channels)
      (reserved : u.budget.reserved = s.budget.reserved) (releasing : u.budget.releasing = s.budget.releasing)
      (total : u.budget.total = s.budget.total) (queue : u.queue.entries = s.queue.entries) : BudgetLaw u :=
    budgetLaw_of_same law (.of_untouched grants channels reserved releasing total queue)
  cases d with
  | move m => exact budgetLaw_move m law
  | round c =>
    rw [State.countRound_eq]
    exact untouched rfl rfl rfl rfl rfl rfl
  | derate e _ k =>
    obtain ⟨ledger, within⟩ := (budgetLaw_iff _).1 law
    exact budgetLaw_recompute (s := s.withFilter _ none) ledger within k
  | depart h k _ m =>
    have closing := budgetLaw_moves m (untouched rfl rfl rfl rfl rfl rfl)
    exact budgetLaw_of_same closing (.of_untouched rfl rfl rfl rfl rfl rfl)
  | adopt ch _ effects => exact budgetLaw_effects effects (untouched rfl rfl rfl rfl rfl rfl)
  | _ => exact untouched rfl rfl rfl rfl rfl rfl

/-! ### Resets -/

/-- What a reset makes of a state: nothing where its edge is none, else the state in which start-up begins or RESET is held. -/
theorem resets_cases {i : Instr} {s t : State} (kind : i.resets = true) (run : exec i s = .next t) :
    t = s ∨ (∃ straps ports, t = started s straps ports) ∨ s.pins.resetLow = false ∧
      ∃ straps, t = fallen s straps (s.resetBlocks Port.fallen straps).ports (s.resetBlocks Port.fallen straps).meas := by
  cases i <;> try cases kind
  case powerOn straps =>
    cases (execPowerOn_eq straps s).symm.trans run
    exact .inr (.inl ⟨_, _, rfl⟩)
  case resetFall straps =>
    cases low : s.pins.resetLow with
    | true =>
      simp only [exec, execResetFall, low, if_true] at run
      cases run
      exact .inl rfl
    | false =>
      cases (execResetFall_eq straps low).symm.trans run
      exact .inr (.inr ⟨rfl, _, rfl⟩)
  case resetRelease straps =>
    cases low : s.pins.resetLow with
    | true =>
      cases (execResetRelease_eq straps low).symm.trans run
      exact .inr (.inl ⟨_, _, rfl⟩)
    | false =>
      simp only [exec, execResetRelease, low] at run
      cases run
      exact .inl rfl

/-- An emptied table, at whatever level, keeps the law of the budget. -/
theorem budgetLaw_of_emptied {t : State} (grants : t.grants = State.reset.grants) (channels : t.channels = State.reset.channels)
    (reserved : t.budget.reserved = 0) (releasing : t.budget.releasing = 0) (queue : t.queue = State.reset.queue) :
    BudgetLaw t := by
  have same : SameLedger (State.reset.withTotal t.budget.total) t :=
    .of_untouched grants channels reserved releasing rfl (by rw [queue]; rfl)
  refine (budgetLaw_iff t).2 ⟨same.ledgerLaw ledgerLaw_reset, withinTotal_of_no_firm fun c => ?_⟩
  rw [firm, same.slot]
  simp [empty_reset]

/-- Settles O11: the law is kept by every deed, and after a reset the table is empty. -/
theorem budgetLawKept : Obligations.BudgetLawKept := by
  refine kept_of_deeds (fun s p law => law) (fun i s t kind law run => ?_) fun s t => budgetLaw_deed
  rcases resets_cases kind run with rfl | ⟨straps, ports, rfl⟩ | ⟨-, straps, rfl⟩
  · exact law
  · exact budgetLaw_of_emptied rfl rfl rfl rfl rfl
  · exact budgetLaw_of_emptied rfl rfl rfl rfl rfl

end Sys2Proof
end

section
/-! The laws of consent, configuration and total (R1, R6, R143, R146), of start-up (R115), and of RESET held low (R190), through
every step. -/

namespace Sys2Proof

open Machine

/-! ### What adoptions and recomputations leave -/

/-- What neither an adoption nor a recomputation changes. -/
structure Steady (s t : State) : Prop where
  low      : t.pins.resetLow = s.pins.resetLow
  scan     : t.scan = s.scan
  rounds   : t.rounds = s.rounds
  ready    : t.ready = s.ready
  proposal : t.proposal = s.proposal
  attached : ∀ h, t.attached h = s.attached h

theorem Steady.refl (s : State) : Steady s s := ⟨rfl, rfl, rfl, rfl, rfl, fun _ => rfl⟩

theorem Steady.trans {s t u : State} (h : Steady s t) (k : Steady t u) : Steady s u where
  low := k.low.trans h.low
  scan := k.scan.trans h.scan
  rounds := k.rounds.trans h.rounds
  ready := k.ready.trans h.ready
  proposal := k.proposal.trans h.proposal
  attached x := (k.attached x).trans (h.attached x)

theorem Calm.steady {s t : State} (c : Calm s t) : Steady s t :=
  ⟨by rw [c.pins], c.scan, c.rounds, c.ready, c.proposal, c.attached⟩

/-- A recomputation sets the total to the level selected, and no act changes it again (R6). -/
theorem quiet_recompute (s : State) (k : BudgetCause) : Quiet (s.withTotal s.selectedLevel) (s.recompute k) :=
  (acts_recompute s k).quiet

theorem steady_recompute (s : State) (k : BudgetCause) : Steady s (s.recompute k) := by
  have level : Steady s (s.withTotal s.selectedLevel) := ⟨rfl, rfl, rfl, rfl, rfl, fun _ => rfl⟩
  exact level.trans (calm_of_quiet (quiet_recompute s k)).steady

theorem steady_effects {ch : Change} {s t : State} (e : Effects ch s t) : Steady s t := by
  induction e with
  | refl => exact .refl _
  | @tail u _ _ e ih =>
    refine ih.trans ?_
    cases e with
    | move m => exact m.calm.steady
    | level k =>
      have configured : Steady u { u with config := k } := ⟨rfl, rfl, rfl, rfl, rfl, fun _ => rfl⟩
      exact configured.trans (steady_recompute _ _)
    | _ => exact ⟨rfl, rfl, rfl, rfl, rfl, fun _ => rfl⟩

theorem withSession_attached (s : State) (h k : HostId) (f : Session → Session) :
    (s.withSession h f).attached k = if k = h then (f (s.session k)).state == .attached else s.attached k := by
  unfold State.attached
  rw [State.withSession_session]
  split <;> rfl

/-- A session that closes leaves every other session's standing. -/
theorem attached_closing (s : State) (h k : HostId) (c : CloseCause) :
    (s.withSession h fun r => { r with state := .closing, lease := none, lastClose := c }).attached k =
      (s.attached k && k != h) := by
  rw [withSession_attached]
  by_cases e : k = h <;> simp [e]

/-! ### Consent -/

theorem consentLaw_of_same {s t : State} (law : ConsentLaw s) (proposal : t.proposal = s.proposal)
    (attached : ∀ h, s.attached h = true → t.attached h = true) : ConsentLaw t := by
  intro p is
  obtain ⟨own, sub, att⟩ := law p (proposal ▸ is)
  exact ⟨own, sub, fun h e => attached h (att h e)⟩

theorem Steady.consentLaw {s t : State} (same : Steady s t) (law : ConsentLaw s) : ConsentLaw t :=
  consentLaw_of_same law same.proposal fun h att => (same.attached h).trans att

theorem consentLaw_of_none {s : State} (none : s.proposal = none) : ConsentLaw s := (noProposal_laws none).1

/-- The votes of a proposal without host h's: those of the proposer stay, and h is no elector (R155). -/
theorem withoutVote_eq_some {h : HostId} {p q : Proposal} (out : withoutVote h p = some q) :
    (p.electorate.read h = false ∧ q = p) ∨ p.proposer ≠ h ∧ q.proposer = p.proposer ∧ q.change = p.change ∧
      ∀ k, q.electorate.read k = (p.electorate.read k && k != h) ∧ q.consents.read k = (p.consents.read k && k != h) := by
  unfold withoutVote at out
  split at out
  · next no => exact .inl ⟨no, (Option.some.inj out).symm⟩
  · split at out
    · cases out
    · next other =>
      cases out
      refine .inr ⟨other, rfl, rfl, fun k => ?_⟩
      by_cases e : k = h <;> simp [Table.read_upd, e]

/-- A departure takes the host out of the electorate as it takes it out of the attached hosts. -/
theorem consentLaw_depart {s u : State} {h : HostId} (law : ConsentLaw s) (proposal : u.proposal = s.proposal)
    (attached : ∀ k, u.attached k = (s.attached k && k != h)) :
    ConsentLaw (u.withProposal (u.proposal.bind (withoutVote h))) := by
  intro q is
  rw [State.withProposal_proposal, proposal, Option.bind_eq_some_iff] at is
  obtain ⟨p, open', out⟩ := is
  obtain ⟨own, sub, att⟩ := law p open'
  simp only [State.withProposal_attached, attached, Bool.and_eq_true, bne_iff_ne]
  rcases withoutVote_eq_some out with ⟨no, rfl⟩ | ⟨other, proposer, -, votes⟩
  · exact ⟨own, sub, fun k e => ⟨att k e, fun eq => by simp [eq, no] at e⟩⟩
  · simp only [votes, proposer, Bool.and_eq_true, bne_iff_ne]
    exact ⟨⟨own, other⟩, fun k c => ⟨sub k c.1, c.2⟩, fun k e => ⟨att k e.1, e.2⟩⟩

theorem only_read (h k : HostId) : (HostSet.only h).read k = true ↔ k = h := by
  simp [HostSet.only, Table.read_upd]

theorem consentLaw_deed {s t : State} (law : ConsentLaw s) (d : Deed s t) : ConsentLaw t := by
  cases d with
  | move m => exact m.calm.steady.consentLaw law
  | round c =>
    rw [State.countRound_eq]
    exact law
  | derate e _ k => exact (steady_recompute (s.withFilter _ none) k).consentLaw law
  | attach h state =>
    refine consentLaw_of_same law rfl fun k att => ?_
    change (s.withSession h _).attached k = true
    rw [withSession_attached]
    split
    · rfl
    · exact att
  | depart h k att m =>
    exact consentLaw_depart law m.calm.proposal fun j => (m.calm.attached j).trans (attached_closing ..)
  | propose h ch att elector legal =>
    intro p is
    cases is
    refine ⟨(only_read h h).2 rfl, fun k consents => ?_, fun k e => attached_of_elector e⟩
    rw [(only_read h k).1 consents]
    exact elector
  | consent h p is elector =>
    obtain ⟨own, sub, att⟩ := law p is
    intro q open'
    cases open'
    refine ⟨?_, fun k consents => ?_, att⟩
    · rw [Table.read_upd]
      split
      · rfl
      · exact own
    · rw [Table.read_upd] at consents
      split at consents
      · next e => exact e ▸ elector
      · exact sub k consents
  | shut => exact consentLaw_of_none rfl
  | adopt ch _ effects => exact consentLaw_of_none (steady_effects effects).proposal
  | _ => exact law

/-! ### Configuration -/

theorem configLaw_of_same {s t : State} (law : ConfigLaw s) (config : t.config = s.config)
    (changes : ∀ q, t.proposal = some q → ∃ p, s.proposal = some p ∧ q.change = p.change) : ConfigLaw t := by
  refine ⟨config ▸ law.1, fun q is => ?_⟩
  obtain ⟨p, open', same⟩ := changes q is
  exact same ▸ law.2 p open'

theorem Calm.configLaw {s t : State} (c : Calm s t) (law : ConfigLaw s) : ConfigLaw t :=
  configLaw_of_same law c.config fun q is => ⟨q, c.proposal ▸ is, rfl⟩

/-- An adoption of a change in range leaves a configuration in range. -/
theorem inRange_effects {ch : Change} {s t : State} (e : Effects ch s t) (legal : Change.InRange ch)
    (range : Configuration.InRange s.config) : Configuration.InRange t.config := by
  induction e with
  | refl => exact range
  | @tail u _ _ e ih =>
    cases e with
    | move m => exact m.calm.config ▸ ih
    | straps v => exact ih
    | config k _ _ keeps => exact keeps legal ih
    | level k keeps =>
      have kept := (quiet_recompute { u with config := k } .config).config
      exact kept ▸ keeps legal ih

theorem configLaw_deed {s t : State} (law : ConfigLaw s) (d : Deed s t) : ConfigLaw t := by
  cases d with
  | move m => exact m.calm.configLaw law
  | round c =>
    rw [State.countRound_eq]
    exact law
  | derate e _ k => exact (calm_of_quiet (quiet_recompute (s.withFilter _ none) k)).configLaw law
  | depart h k att m =>
    refine configLaw_of_same law m.calm.config fun q is => ?_
    rw [State.withProposal_proposal, m.calm.proposal, Option.bind_eq_some_iff] at is
    obtain ⟨p, open', out⟩ := is
    rcases withoutVote_eq_some out with ⟨-, rfl⟩ | ⟨-, -, change, -⟩
    · exact ⟨_, open', rfl⟩
    · exact ⟨p, open', change⟩
  | propose h ch _ _ legal =>
    refine ⟨law.1, fun p is => ?_⟩
    cases is
    exact legal
  | consent h p is _ =>
    refine ⟨law.1, fun q open' => ?_⟩
    cases open'
    exact law.2 p is
  | shut => exact (noProposal_laws rfl).2 law.1
  | adopt ch source effects =>
    have legal : Change.InRange ch := by
      rcases source with legal | ⟨p, is, rfl⟩
      · exact legal
      · exact law.2 p is
    exact (noProposal_laws (steady_effects effects).proposal).2 (inRange_effects effects legal law.1)
  | _ => exact law

/-! ### The total -/

theorem Calm.totalLaw {s t : State} (c : Calm s t) (law : TotalLaw s) : TotalLaw t := by
  unfold TotalLaw State.selectedLevel at *
  rw [c.total, c.derateTaken, c.config]
  exact law

/-- After a recomputation the total is the level selected (R6). -/
theorem totalLaw_recompute (s : State) (k : BudgetCause) : TotalLaw (s.recompute k) := by
  have base : TotalLaw (s.withTotal s.selectedLevel) := rfl
  exact (calm_of_quiet (quiet_recompute s k)).totalLaw base

theorem totalLaw_effects {ch : Change} {s t : State} (e : Effects ch s t) (law : TotalLaw s) : TotalLaw t := by
  induction e with
  | refl => exact law
  | tail _ e ih =>
    cases e with
    | move m => exact m.calm.totalLaw ih
    | straps v => exact ih
    | config k normal derated =>
      unfold TotalLaw State.selectedLevel at *
      rw [normal, derated]
      exact ih
    | level k => exact totalLaw_recompute _ _

theorem totalLaw_deed {s t : State} (law : TotalLaw s) (d : Deed s t) : TotalLaw t := by
  cases d with
  | move m => exact m.calm.totalLaw law
  | round c =>
    rw [State.countRound_eq]
    exact law
  | derate e _ k => exact totalLaw_recompute _ _
  | depart h k _ m => exact m.calm.totalLaw law
  | adopt ch _ effects => exact totalLaw_effects effects law
  | _ => exact law

/-- Settles O43: each law by the deeds, and after a reset from the defaults. -/
theorem consentAndConfigurationLawsKept : Obligations.ConsentAndConfigurationLawsKept := by
  refine ⟨kept_of_deeds (fun s p law => law) (fun i s t kind law run => ?_) fun s t => consentLaw_deed,
    kept_of_deeds (fun s p law => law) (fun i s t kind law run => ?_) fun s t => configLaw_deed,
    kept_of_deeds (fun s p law => law) (fun i s t kind law run => ?_) fun s t => totalLaw_deed⟩
  all_goals rcases resets_cases kind run with rfl | ⟨straps, ports, rfl⟩ | ⟨-, straps, rfl⟩
  case refine_1.inr.inl | refine_1.inr.inr => exact consentLaw_of_none rfl
  case refine_2.inr.inl | refine_2.inr.inr => exact (noProposal_laws rfl).2 (inRange_default straps)
  case refine_3.inr.inl | refine_3.inr.inr => exact rfl
  all_goals exact law

/-! ### Start-up -/

theorem Steady.startUpLaw {s t : State} (same : Steady s t) (law : StartUpLaw s) : StartUpLaw t := by
  unfold StartUpLaw at *
  rw [same.scan, same.low, same.rounds, same.ready]
  exact law

/-- The eighth round counted sets READY, and no other does (R115). -/
theorem startUpLaw_countRound {s : State} (law : StartUpLaw s) (scan : s.scan.isSome = true) (c : ChanId) :
    StartUpLaw (s.countRound c) := by
  obtain ⟨runs, most, ready⟩ := law
  have high : s.pins.resetLow = false := by simpa [scan] using runs.symm
  unfold State.countRound
  split
  · next counts =>
    dsimp only
    split
    · next eighth => exact ⟨runs, eighth.le, fun _ => ⟨high, eighth⟩, fun _ => rfl⟩
    · next short =>
      refine ⟨runs, counts.2, fun on => ?_, fun full => absurd full.2 short⟩
      exact absurd (ready.1 on).2 (Nat.ne_of_lt counts.2)
  · exact ⟨runs, most, ready⟩

theorem startUpLaw_deed {s t : State} (law : StartUpLaw s) (d : Deed s t) : StartUpLaw t := by
  cases d with
  | move m => exact m.calm.steady.startUpLaw law
  | advance sc scan =>
    obtain ⟨runs, rest⟩ := law
    rw [scan] at runs
    exact ⟨runs, rest⟩
  | round c scan => exact startUpLaw_countRound law scan c
  | derate e _ k => exact (steady_recompute (s.withFilter _ none) k).startUpLaw law
  | depart h k _ m => exact m.calm.steady.startUpLaw law
  | adopt ch _ effects => exact (steady_effects effects).startUpLaw law
  | _ => exact law

theorem startUpLawKept : Kept StartUpLaw := by
  refine kept_of_deeds (fun s p law => law) (fun i s t kind law run => ?_) fun s t => startUpLaw_deed
  rcases resets_cases kind run with rfl | ⟨straps, ports, rfl⟩ | ⟨-, straps, rfl⟩
  · exact law
  · exact ⟨rfl, Nat.zero_le _, by simp [started, State.reset, Config.startUpRounds]⟩
  · exact ⟨rfl, law.2.1, by simp [fallen, State.reset]⟩

end Sys2Proof
end

section
/-! RESET held low (R190): no event is at hand but the edges of select and the pins, and those leave every block in its reset
state. -/

namespace Sys2Proof

open Machine

/-! ### What is at hand -/

/-- `t` is `s` but for the level of DERATE and the ports, with every buffer and outbox empty. -/
def Aside (s t : State) : Prop :=
  t = { s with pins := { s.pins with derate := t.pins.derate }, ports := t.ports, outboxes := t.outboxes } ∧
    ∀ h, t.outbox h = [] ∧ (t.port h).buffer = none

/-- The state while RESET is held low, as far as the events ask for it. -/
structure Dormant (s : State) : Prop where
  low : s.pins.resetLow = true
  hold : s.budget.derateHold = none
  entries : s.queue.entries = []
  blocking : s.queue.blockingTimer = none
  rest : ∀ c, s.chan c = Channel.rest .idle
  scan : s.scan = none
  detached : ∀ h, s.attached h = false
  proposal : s.proposal = none
  empty : ∀ h, s.outbox h = [] ∧ (s.port h).buffer = none
  busy : s.ready = false

theorem dormant_of_low {s : State} (law : HeldLowLaw s) (low : s.pins.resetLow = true) : Dormant s := by
  obtain ⟨budget, -, queue, chan, -, scan, -, session, -, proposal, -, empty, ready, -⟩ := law low
  exact
    { low := low, hold := by rw [budget], entries := by rw [queue], blocking := by rw [queue], rest := chan, scan := scan,
      detached := fun h => by simp [State.attached, session h], proposal := proposal, empty := empty, busy := ready }

/-- What stands aside of a state in its reset state is in its reset state (R190). -/
theorem heldLowLaw_of_aside {s t : State} (law : HeldLowLaw s) (aside : Aside s t) : HeldLowLaw t := by
  obtain ⟨same, empty⟩ := aside
  have clear : ∀ h, (t.outbox h = [] ∧ (t.port h).buffer = none) := empty
  rw [same] at clear ⊢
  intro low
  obtain ⟨budget, grants, queue, chan, meas, scan, tally, session, config, proposal, next, -, ready, pointer⟩ := law low
  exact ⟨budget, grants, queue, chan, meas, scan, tally, session, config, proposal, next, clear, ready, pointer⟩

/-- A TAKE removes nothing from an empty outbox (R174). -/
theorem headFix_taken_nil (x : HeadFix) (n : Nat) : x.taken n [] = [] := by
  unfold HeadFix.taken
  split
  · rfl
  · split <;> rfl

namespace Dormant

variable {s : State} (d : Dormant s)
include d

theorem aside_refl : Aside s s := ⟨rfl, d.empty⟩

theorem aside_withPort {h : HostId} {f : Port → Port} (buffer : (f (s.port h)).buffer = none) : Aside s (s.withPort h f) := by
  refine ⟨rfl, fun k => ⟨(d.empty k).1, ?_⟩⟩
  rw [State.withPort_port]
  split
  · next e => exact e ▸ buffer
  · exact (d.empty k).2

theorem aside_selectFall (h : HostId) : Aside s (s.selectFall h) := by
  rw [State.selectFall_eq]
  split
  · exact d.aside_withPort (d.empty h).2
  · exact d.aside_refl

theorem aside_endRequest (h : HostId) (bytes : List Byte) (stray : Fin 8) : Aside s (s.endRequest h bytes stray) := by
  refine d.aside_withPort ?_
  simp [State.judgeRequest, d.busy, (d.empty h).2]

theorem aside_take (h : HostId) (n : Nat) (spares : Bool) :
    Aside s ((s.endFetch h n).withOutbox h fun box => if spares then box else (s.fixed h).taken n box) := by
  obtain ⟨same, empty⟩ : Aside s (s.endFetch h n) := d.aside_withPort (d.empty h).2
  refine ⟨rfl, fun k => ⟨?_, (empty k).2⟩⟩
  rw [State.withOutbox_outbox, (empty k).1, headFix_taken_nil]
  simp

theorem completeSlot (c : ChanId) (r : Reading) : s.completeSlot c r = s := by simp [State.completeSlot, d.scan]

theorem expiryOf (c : ChanId) (k : TimerKind) (st : ChanState) : s.expiryOf c k st = none := by
  simp [State.expiryOf, d.rest c, Channel.rest]

theorem nextFrame : s.nextFrame = none := by simp [State.nextFrame, d.low]

theorem taking (k : RequestKind) (handle : HostId → Frame → State → State) : s.taking k handle = s := by
  simp [State.taking, d.nextFrame]

/-- While RESET is held low a command other than a reset's changes no block (R190). -/
theorem aside_exec {i : Instr} {t : State} (other : i.resets = false) (run : exec i s = .next t) : Aside s t := by
  have still {u : State} (same : u = s) : Aside s u := same ▸ d.aside_refl
  cases i <;> cases run
  case powerOn | resetFall | resetRelease => cases other
  case slotCompletion => exact still (d.completeSlot ..)
  case startUpEnd | overdrawCountFull | idleFaultLimit => exact still (by rw [d.completeSlot, ite_self])
  case deratePinChange level =>
    split
    · exact d.aside_refl
    · dsimp only
      rw [if_pos d.low]
      exact ⟨rfl, d.empty⟩
  case derateHoldExpiry => exact still (by simp [d.hold])
  case rampTimerExpiry | graceTimerExpiry | holdoffTimerExpiry | dischargeTimerExpiry => exact still (by simp [d.expiryOf])
  case leaseExpiry => exact still (by simp [d.detached])
  case windowTimerExpiry => exact still (by simp [d.proposal])
  case blockingTimerExpiry => exact still (by simp [d.blocking])
  case deadlineExpiry => exact still (by simp [State.entryOf, d.entries])
  case status h e =>
    split
    · exact d.aside_selectFall h
    · split <;> exact d.aside_withPort (d.empty h).2
  case unknownTransaction h code e =>
    split
    · split
      · exact d.aside_selectFall h
      · exact d.aside_withPort (d.empty h).2
    · exact d.aside_refl
  case request h e stray =>
    split
    · exact d.aside_selectFall h
    · exact d.aside_endRequest ..
  case peek h e =>
    split
    · exact d.aside_selectFall h
    · exact d.aside_withPort (d.empty h).2
  case take h e =>
    split
    · exact d.aside_selectFall h
    · exact d.aside_take ..
  case outboxHeadFix h =>
    split
    · exact d.aside_refl
    · exact d.aside_withPort (d.empty h).2
  case unknownRequestKind => exact still (by simp [State.takingUnknown, d.nextFrame])
  all_goals exact still (d.taking ..)

end Dormant

/-! ### Before and after the fall -/

theorem resetLow_deed {s t : State} (high : s.pins.resetLow = false) (d : Deed s t) : t.pins.resetLow = false := by
  cases d with
  | move m => exact m.calm.pins ▸ high
  | round c =>
    rw [State.countRound_eq]
    exact high
  | derate e _ k => exact (steady_recompute (s.withFilter _ none) k).low.trans high
  | depart h k _ m => exact (congrArg Pins.resetLow m.calm.pins).trans high
  | adopt ch _ effects => exact (steady_effects effects).low.trans high
  | _ => exact high

theorem heldLowLaw_of_high {s : State} (high : s.pins.resetLow = false) : HeldLowLaw s := fun low => by simp [high] at low

/-- The fall of RESET puts every block into its reset state (R17, R37, R68, R94, R97, R114, R125, R141, R144, R177, R190). -/
theorem heldLowLaw_fallen (s : State) (straps : BitVec 2) :
    HeldLowLaw (fallen s straps (s.resetBlocks Port.fallen straps).ports (s.resetBlocks Port.fallen straps).meas) := by
  have cleared (c : ChanId) := resetBlocks_measure s Port.fallen straps c
  have emptied (h : HostId) := resetBlocks_port s Port.fallen straps h
  generalize s.resetBlocks Port.fallen straps = u at cleared emptied
  refine fun _ => ⟨rfl, rfl, rfl, fun c => Table.read_const .., fun c => ?_, rfl, fun h => Table.read_const ..,
    fun h => Table.read_const .., rfl, rfl, rfl, fun h => ⟨Table.read_const .., ?_⟩, rfl, rfl⟩
  · have at' : (fallen s straps u.ports u.meas).measure c = (s.measure c).cleared := cleared c
    rw [at']
    rfl
  · have at' : (fallen s straps u.ports u.meas).port h = (s.port h).fallen := emptied h
    rw [at']
    rfl

theorem heldLowLawKept : Kept HeldLowLaw := by
  intro s t law run
  unfold step at run
  split at run
  · cases run
    exact law
  · next i rest _ =>
    have law' : HeldLowLaw { s with pending := rest } := law
    cases kind : i.resets with
    | true =>
      rcases resets_cases kind run with rfl | ⟨straps, ports, rfl⟩ | ⟨-, straps, rfl⟩
      · exact law
      · exact heldLowLaw_of_high rfl
      · exact heldLowLaw_fallen _ straps
    | false =>
      cases low : s.pins.resetLow with
      | true => exact heldLowLaw_of_aside law' ((dormant_of_low law' low).aside_exec kind run)
      | false =>
        exact heldLowLaw_of_high ((deeds_exec kind run).keeps (law := fun u => u.pins.resetLow = false)
          (fun _ _ => resetLow_deed) low)

/-- Settles O6: RESET held low by the events at hand, start-up by the deeds. -/
theorem heldLowAndStartUpLawsKept : Obligations.HeldLowAndStartUpLawsKept := ⟨heldLowLawKept, startUpLawKept⟩

end Sys2Proof
end

section
/-! The reports: QUERY_PART, RENEW, READ_SESSION and READ_BUDGET (R16, R132, R133, R187). -/

namespace Sys2Proof

open Machine

/-- A request that has no body, answered out of the state its taking leaves: the answer where the body is empty, BAD_VALUE
where it is not. -/
theorem bodiless_taken {s : State} {h : HostId} {f : Frame} {answer : State → State} {a : Answer}
    (answers : answer (taken s h) = answered s h f a) :
    (f.body = [] → (taken s h).bodiless h f answer = answered s h f a) ∧
      (f.body ≠ [] → (taken s h).bodiless h f answer = refusedWith s h f .badValue) := by
  rw [bodiless_eq]
  exact ⟨fun none => (if_pos none).trans answers, fun some => if_neg some⟩

/-- The same, of a request row that comes to it. -/
theorem exec_bodiless {i : Instr} {s : State} {h : HostId} {f : Frame} {answer : State → State} {a : Answer}
    (row : exec i s = .next ((taken s h).bodiless h f answer)) (answers : answer (taken s h) = answered s h f a) :
    (f.body = [] → exec i s = .next (answered s h f a)) ∧
      (f.body ≠ [] → exec i s = .next (refusedWith s h f .badValue)) := by
  obtain ⟨empty, other⟩ := bodiless_taken answers
  exact ⟨fun none => row.trans (congrArg _ (empty none)), fun some => row.trans (congrArg _ (other some))⟩

/-- Settles O42: each row is a request with no body, whose answer reads the state its taking leaves. -/
theorem reportingRequestsAnswer : Obligations.ReportingRequestsAnswer := by
  refine ⟨fun s h f n => ?part, fun s h f n => ?renew, fun s h f e n lease => ?session, fun s h f n => ?budget⟩
  case part => exact exec_bodiless (congrArg _ (taking_always n rfl handleQueryPart)) rfl
  case renew => exact exec_bodiless (congrArg _ (taking_served n handleRenew)) rfl
  case session =>
    refine exec_bodiless (congrArg _ (taking_served n (handleReadSession s.leaseRemaining))) ?_
    have left : s.leaseRemaining h = (e - s.now + 3) / 4 := by simp [State.leaseRemaining, lease, State.remaining, Config.slotsPerMs]
    rw [taken_epoch, left]
    rfl
  case budget => exact exec_bodiless (congrArg _ (taking_served n handleReadBudget)) rfl

end Sys2Proof
end

section
/-! What a scan and a removal of entries leave, said of the state they end in: a channel that is not free stays as it is, an
empty queue is not scanned, and each host is told of its own entries. -/

namespace Sys2Proof

open Machine

/-! ### Scans -/

/-- A relation that admissions and postings extend is had by every walk. -/
theorem scanWalk_relates {r : State → State → Prop} (refl : ∀ s, r s s) (trans : ∀ {s t u}, r s t → r t u → r s u)
    (admission : ∀ s e, s.admissible e = true → r s (s.admitEntry e).1) (post : ∀ s h n, r s (s.post h n))
    (claim : Option (HostId × Byte)) (todo : List WaitEntry) :
    ∀ (flag : Bool) (s : State) (fate : Fate), r s (scanWalk claim todo flag (s, fate)).1 := by
  induction todo with
  | nil => exact fun _ s _ => refl s
  | cons e rest ih =>
    intro flag s fate
    rw [scanWalk]
    split
    · exact refl s
    · split
      · next adm =>
        dsimp only
        split
        · exact trans (admission s e adm) (ih _ _ _)
        · exact trans (trans (admission s e adm) (post ..)) (ih _ _ _)
      · exact ih _ _ _

theorem scanQueue_of_empty {s : State} (empty : s.queue.entries = []) : s.scanQueue = s := by
  simp [State.scanQueue, empty, scanWalk]

/-- Every channel that was not free holds what it held, in the state it was in. -/
structure KeepsTaken (s t : State) : Prop where
  taken : ∀ c, ¬ Free s c → t.slot c = s.slot c ∧ t.chan c = s.chan c

theorem KeepsTaken.refl (s : State) : KeepsTaken s s := ⟨fun _ _ => ⟨rfl, rfl⟩⟩

theorem KeepsTaken.trans {s t u : State} (h : KeepsTaken s t) (k : KeepsTaken t u) : KeepsTaken s u := by
  refine ⟨fun c taken => ?_⟩
  obtain ⟨slot, chan⟩ := h.taken c taken
  obtain ⟨slot', chan'⟩ := k.taken c (by rwa [Free, slot, chan])
  exact ⟨slot'.trans slot, chan'.trans chan⟩

theorem createGrants_of_not_mem {e : WaitEntry} {c : ChanId} (is : List Item) : ∀ {s : State}, c ∉ is.map Item.channel →
    (s.createGrants e is).1.slot c = s.slot c ∧ (s.createGrants e is).1.chan c = s.chan c := by
  induction is with
  | nil => exact fun _ => ⟨rfl, rfl⟩
  | cons i rest ih =>
    intro s other
    obtain ⟨ne, other⟩ := not_or.1 (mt List.mem_cons.2 other)
    obtain ⟨slot, chan⟩ := ih (s := s.createGrant e i) other
    exact ⟨slot.trans (by simp [ne]), chan.trans (by simp [ne])⟩

theorem keepsTaken_of_same {s t : State} (grants : t.grants = s.grants) (channels : t.channels = s.channels) :
    KeepsTaken s t :=
  ⟨fun _ _ => by simp [State.slot, State.chan, grants, channels]⟩

theorem keepsTaken_setEntries (s : State) (es : List WaitEntry) : KeepsTaken s (s.setEntries es) := by
  rw [State.setEntries_eq]
  exact keepsTaken_of_same rfl rfl

theorem keepsTaken_post (s : State) (h : HostId) (n : Notice) : KeepsTaken s (s.post h n) :=
  ⟨fun _ _ => ⟨State.post_slot .., State.post_chan ..⟩⟩

theorem keepsTaken_admitEntry {s : State} {e : WaitEntry} (adm : s.admissible e = true) :
    KeepsTaken s (s.admitEntry e).1 := by
  refine .trans (t := (s.createGrants e e.items).1) ⟨fun c taken => ?_⟩ (keepsTaken_setEntries ..)
  refine createGrants_of_not_mem e.items fun named => ?_
  obtain ⟨i, m, rfl⟩ := List.mem_map.1 named
  exact taken (free_of_admissible adm i m)

theorem keepsTaken_scanQueue (s : State) : KeepsTaken s s.scanQueue :=
  scanWalk_relates .refl .trans (fun _ _ => keepsTaken_admitEntry) keepsTaken_post ..

/-! ### Entries that leave with a notice -/

theorem postFailed_eq (s : State) (k : FailCause) (es : List WaitEntry) :
    s.postFailed k es = { s with outboxes := (s.postFailed k es).outboxes } := by
  induction es generalizing s with
  | nil => rfl
  | cons e rest ih =>
    have step : s.postFailed k (e :: rest) = (s.post e.host (.claimFailed e.tag k)).postFailed k rest := rfl
    rw [step, ih, State.post_eq]

theorem post_attached (s : State) (h k : HostId) (n : Notice) : (s.post h n).attached k = s.attached k := by
  rw [State.post_eq]
  rfl

/-- Each attached host is told of its own entries, in their order (R64). -/
theorem postFailed_outbox (k : FailCause) (h : HostId) (es : List WaitEntry) : ∀ s : State,
    (s.postFailed k es).outbox h =
      if s.attached h then
        (es.filter (·.host == h)).foldl (fun box e => arrive (.claimFailed e.tag k) box) (s.outbox h)
      else s.outbox h := by
  induction es with
  | nil => simp [State.postFailed]
  | cons e rest ih =>
    intro s
    refine (ih (s.post e.host (.claimFailed e.tag k))).trans ?_
    rw [post_attached, post_outbox]
    by_cases own : e.host = h
    · subst own
      split <;> simp_all
    · simp [own, Ne.symm own]

/-- Postings of CLAIM_FAILED to the entries that `p` picks are what the claims call so. -/
theorem failed_postFailed (s : State) (p : WaitEntry → Bool) (k : FailCause) :
    Failed p k s (s.postFailed k (s.queue.entries.filter p)) := by
  refine ⟨postFailed_eq .., fun h => ?_⟩
  rw [postFailed_outbox, List.filter_filter]
  simp only [Bool.and_comm]

theorem failEntries_eq (s : State) (p : WaitEntry → Bool) (k : FailCause) :
    s.failEntries p k =
      State.setEntries (s.queue.entries.filter fun e => !p e) (s.postFailed k (s.queue.entries.filter p)) := by
  rw [State.failEntries, State.dropEntries, State.postFailed_queue]

theorem failAndScan_eq (s : State) (p : WaitEntry → Bool) (k : FailCause) :
    s.failAndScan p k = scannedWithout p s (s.postFailed k (s.queue.entries.filter p)) := by
  rw [State.failAndScan, failEntries_eq]
  rfl

theorem setEntries_self (s : State) : s.setEntries s.queue.entries = s := by simp [State.setEntries]

/-- With no entry to remove, nothing is removed and no host is told. -/
theorem failEntries_of_none {s : State} {p : WaitEntry → Bool} (none : s.queue.entries.any p = false) (k : FailCause) :
    s.failEntries p k = s := by
  have no : ∀ e ∈ s.queue.entries, p e = false := by simpa using none
  have kept : (s.queue.entries.filter fun e => !p e) = s.queue.entries :=
    List.filter_eq_self.2 fun e m => by simp [no e m]
  have out : s.queue.entries.filter p = [] := List.filter_eq_nil_iff.2 fun e m => by simp [no e m]
  rw [failEntries_eq, kept, out]
  exact setEntries_self s

theorem keepsTaken_postFailed (s : State) (k : FailCause) (es : List WaitEntry) : KeepsTaken s (s.postFailed k es) := by
  rw [postFailed_eq]
  exact keepsTaken_of_same rfl rfl

theorem keepsTaken_failEntries (s : State) (p : WaitEntry → Bool) (k : FailCause) : KeepsTaken s (s.failEntries p k) := by
  rw [failEntries_eq]
  exact (keepsTaken_postFailed ..).trans (keepsTaken_setEntries ..)

theorem failEntries_entries (s : State) (p : WaitEntry → Bool) (k : FailCause) :
    (s.failEntries p k).queue.entries = s.queue.entries.filter fun e => !p e := by
  rw [failEntries_eq, State.setEntries_entries]

/-- After the removal and its scan, what waits was waiting before and is not among the removed. -/
theorem mem_scanned {s : State} {p : WaitEntry → Bool} {k : FailCause} {x : WaitEntry}
    (m : x ∈ (s.failEntries p k).scanQueue.queue.entries) : x ∈ s.queue.entries ∧ p x = false := by
  have := (sublist_scanQueue _).subset m
  rw [failEntries_entries] at this
  simpa using this

theorem keepsTaken_failAndScan (s : State) (p : WaitEntry → Bool) (k : FailCause) : KeepsTaken s (s.failAndScan p k) := by
  unfold State.failAndScan
  split
  · exact (keepsTaken_failEntries ..).trans (keepsTaken_scanQueue _)
  · exact .refl _

theorem mem_failAndScan {s : State} {p : WaitEntry → Bool} {k : FailCause} {x : WaitEntry}
    (m : x ∈ (s.failAndScan p k).queue.entries) : x ∈ s.queue.entries ∧ p x = false := by
  unfold State.failAndScan at m
  split at m
  · exact mem_scanned m
  · next none => exact ⟨m, by simpa using fun h => none (List.any_eq_true.2 ⟨x, m, h⟩)⟩

theorem KeepsTaken.slot_of_some {s t : State} (keeps : KeepsTaken s t) {c : ChanId} {g : Grant} (slot : s.slot c = some g) :
    t.slot c = some g :=
  (keeps.taken c fun free => by simp [free.2] at slot).1.trans slot

end Sys2Proof
end

section
/-! The total recomputed: the four cases of R6 at a DERATE taking and at SET_BUDGET, and the removals of SET_CEILING and
SET_HOST_CAP (R60, R61). -/

namespace Sys2Proof

open Machine

/-! ### The four cases -/

section Recompute
variable {r : State} {new : Nat} {k : BudgetCause} (level : r.selectedLevel = new)
include level

theorem recompute_of_eq (eq : new = r.budget.total) : r.recompute k = r.withTotal new := by
  subst level
  simp [State.recompute, eq]

/-- A fall sheds down to the level and is broadcast (R10, R11, R14). -/
theorem recompute_of_lt (lt : new < r.budget.total) :
    r.recompute k = ((r.withTotal new).shed (r.withTotal new).grants.admission.length).postBudget k := by
  subst level
  simp [State.recompute, lt]

/-- A rise is broadcast and scanned (R14). -/
theorem recompute_of_gt (gt : r.budget.total < new) : r.recompute k = ((r.withTotal new).postBudget k).scanQueue := by
  subst level
  simp [State.recompute, gt, Nat.not_lt.2 gt.le]

end Recompute

/-- The broadcast of BUDGET_CHANGED carries the figures of the state it is made from (R14). -/
theorem broadcast_postBudget {s : State} {new reserved : Nat} (total : s.budget.total = new)
    (res : s.budget.reserved = reserved) (k : BudgetCause) :
    Broadcast (.budgetChanged new reserved k) s (s.postBudget k) := by
  subst total res
  exact broadcast_broadcast ..

theorem shed_budget (s : State) (n : Nat) :
    (s.shed n).budget.total = s.budget.total ∧ (s.shed n).budget.derateTaken = s.budget.derateTaken :=
  let quiet := (acts_shed n s).quiet
  ⟨quiet.total, quiet.derateTaken⟩

/-- A fall that the held total is within sheds nothing and is broadcast. -/
theorem broadcast_recompute_of_held {r : State} {new : Nat} {k : BudgetCause} (level : r.selectedLevel = new)
    (lt : new < r.budget.total) (held : r.held ≤ new) :
    Broadcast (.budgetChanged new r.budget.reserved k) (r.withTotal new) (r.recompute k) := by
  rw [recompute_of_lt level lt, shed_of_held_le held]
  exact broadcast_postBudget rfl rfl k

/-- A fall is broadcast with the figures after the shedding. -/
theorem broadcast_recompute_of_shed {r v : State} {new : Nat} {k : BudgetCause} (level : r.selectedLevel = new)
    (lt : new < r.budget.total) (shed : v = (r.withTotal new).shed (r.withTotal new).grants.admission.length) :
    Broadcast (.budgetChanged new v.budget.reserved k) v (r.recompute k) := by
  rw [recompute_of_lt level lt, ← shed]
  exact broadcast_postBudget (shed ▸ (shed_budget ..).1) rfl k

/-- Shedding brings the held total within the level (R10). -/
theorem held_shed_le {u v : State} (law : LedgerLaw u) (shed : v = u.shed u.grants.admission.length) :
    v.held ≤ u.budget.total := by
  subst shed
  obtain ⟨law', -⟩ := ledgerLaw_acts (acts_shed u.grants.admission.length u) law
  exact ((withinTotal_iff_held law'.2.1).1 (withinTotal_shed_admission law)).trans_eq (shed_budget ..).1

/-- Settles O9: the expiry is the recomputation of R6 on the state in which the other level has been taken. -/
theorem derateTakingRecomputesTheTotal : Obligations.DerateTakingRecomputesTheTotal := by
  intro s e new level cause u hold other new_eq cause_eq u_eq
  let r := (s.reach e).withFilter level none
  have taking : exec .derateHoldExpiry s = .next (r.recompute cause) := by
    subst other cause_eq
    simp only [exec, execDerateHoldExpiry, hold]
    rfl
  have sel : r.selectedLevel = new := new_eq.symm
  obtain rfl : u = r.withTotal new := u_eq
  refine ⟨fun eq => ?equal, fun lt held => ?within, fun v lt shed => ?shedding, fun gt => ?higher⟩
  case equal => rw [taking, recompute_of_eq sel eq]
  case within => exact ⟨_, taking, broadcast_recompute_of_held sel lt held⟩
  case shedding =>
    refine ⟨⟨_, taking, ?_, ?_, broadcast_recompute_of_shed sel lt shed⟩, fun table account positive => ?_⟩
    · exact shed ▸ (shed_budget ..).1
    · exact shed ▸ (shed_budget ..).2
    · have law : LedgerLaw (r.withTotal new) := ⟨table, account, positive⟩
      exact held_shed_le law shed
  case higher => exact ⟨_, broadcast_postBudget rfl rfl cause, by rw [taking, recompute_of_gt sel gt]⟩

/-! ### Adopted limits -/

/-- Adoption of SET_BUDGET is the recomputation of R6 on the state with both levels replaced (R158). -/
theorem adopt_setBudget (s : State) (straps : BitVec 2) (n d : Nat) :
    s.adopt straps (.setBudget n d) =
      State.recompute .config { s with config := { s.config with normal := n, derated := d } } := rfl

theorem adopt_setCeiling (s : State) (straps : BitVec 2) (c : ChanId) (v : Nat) :
    s.adopt straps (.setCeiling c v) = (s.withSettings c fun k => { k with ceiling := v }).failAndScan
      (WaitEntry.over c v) .overCeiling := rfl

/-- With the cap not raised and no entry above it, its adoption replaces the figure alone; else it removes and scans (R61). -/
theorem adopt_setHostCap (s : State) (straps : BitVec 2) (h : HostId) (v : Nat) :
    s.adopt straps (.setHostCap h v) =
      let u := s.withConfig fun k => { k with caps := k.caps.upd h fun _ => v }
      if s.queue.entries.any (WaitEntry.overCap h v) = true ∨ s.cap h < v then
        (u.failEntries (WaitEntry.overCap h v) .overHostCap).scanQueue
      else u := by
  simp only [State.adopt, State.adoptCap, Bool.or_eq_true, decide_eq_true_eq]
  split
  · rfl
  · next quiet =>
    have none : s.queue.entries.any (WaitEntry.overCap h v) = false := by
      simpa using fun h => (not_or.1 quiet).1 h
    exact failEntries_of_none (s := s.withConfig _) none _

/-- Settles O50: SET_BUDGET by the cases of the recomputation, the other two by what a removal and a scan leave. -/
theorem adoptedLimitsBindTheQueue : Obligations.AdoptedLimitsBindTheQueue := by
  refine fun s straps => ⟨fun n d new t u adopted new_eq u_eq => ?budget, fun c v hit picks => ?ceiling,
    fun h v hit picks => ?cap⟩
  case budget =>
    let r : State := { s with config := { s.config with normal := n, derated := d } }
    obtain rfl : r.recompute .config = t := (adopt_setBudget s straps n d).symm.trans adopted
    have sel : r.selectedLevel = new := new_eq.symm
    obtain rfl : u = r.withTotal new := u_eq
    have quiet := quiet_recompute r .config
    refine ⟨quiet.config, quiet.total.trans sel, recompute_of_eq sel, broadcast_recompute_of_held sel,
      fun w lt shed => ⟨broadcast_recompute_of_shed sel lt shed, fun table account positive => ?_⟩,
      fun gt => ⟨_, broadcast_postBudget rfl rfl .config, recompute_of_gt sel gt⟩⟩
    have law : LedgerLaw (r.withTotal new) := ⟨table, account, positive⟩
    exact held_shed_le law shed
  case ceiling =>
    obtain rfl : hit = WaitEntry.over c v := funext fun e => by
      rw [Bool.eq_iff_iff, picks]
      simp [WaitEntry.over]
    let u := s.withSettings c fun k => { k with ceiling := v }
    have adopted := adopt_setCeiling s straps c v
    refine ⟨_, u, _, rfl, rfl, failed_postFailed u _ .overCeiling, adopted.trans (failAndScan_eq ..), ?_, fun e m => ?_,
      fun d g slot => ?_⟩
    · rw [adopted]
      exact (acts_failAndScan ..).quiet.config
    · rw [adopted] at m
      obtain ⟨waited, under⟩ := mem_failAndScan m
      exact ⟨waited, fun i item named => by simpa [WaitEntry.over, named] using List.any_eq_false.1 under i item⟩
    · rw [adopted]
      exact (keepsTaken_failAndScan u _ _).slot_of_some slot
  case cap =>
    obtain rfl : hit = WaitEntry.overCap h v := funext fun e => by
      rw [Bool.eq_iff_iff, picks]
      simp only [WaitEntry.overCap, Bool.and_eq_true, beq_iff_eq, decide_eq_true_eq]
      rfl
    let u := s.withConfig fun k => { k with caps := k.caps.upd h fun _ => v }
    have within {e : WaitEntry} (under : WaitEntry.overCap h v e = false) (own : e.host = h) : e.sum ≤ v := by
      simpa [WaitEntry.overCap, own] using under
    have adopted := adopt_setHostCap s straps h v
    refine ⟨_, u, _, rfl, rfl, failed_postFailed u _ .overHostCap, ?_⟩
    by_cases scans : s.queue.entries.any (WaitEntry.overCap h v) = true ∨ s.cap h < v
    · have removed : s.adopt straps (.setHostCap h v) = (u.failEntries (WaitEntry.overCap h v) .overHostCap).scanQueue :=
        adopted.trans (if_pos scans)
      rw [removed, if_pos scans]
      refine ⟨congrArg State.scanQueue (failEntries_eq ..), ((acts_failEntries ..).trans (acts_scanQueue _)).quiet.config,
        fun e m => ?_, fun d g => ((keepsTaken_failEntries u _ _).trans (keepsTaken_scanQueue _)).slot_of_some⟩
      obtain ⟨waited, under⟩ := mem_scanned m
      exact ⟨waited, within under⟩
    · have kept : s.adopt straps (.setHostCap h v) = u := adopted.trans (if_neg scans)
      rw [kept, if_neg scans]
      have none := not_or.1 scans
      refine ⟨rfl, rfl, fun e m => ⟨m, within ?_⟩, fun d g slot => slot⟩
      simpa using fun hit => none.1 (List.any_eq_true.2 ⟨e, m, hit⟩)

end Sys2Proof
end

section
/-! The release of a grant, its discharge and its end (R29 to R34, R86 to R88): each as one change of the records, with the
notices to the owner and the end of CLOSING. -/

namespace Sys2Proof

open Machine

/-! ### Notices to an owner -/

theorem ownerPresent_congr {s t : State} (sessions : t.sessions = s.sessions) (g : Grant) :
    t.ownerPresent g = s.ownerPresent g := by
  simp [State.ownerPresent, State.attached, State.session, sessions]

theorem attached_of_ownerPresent {s : State} {g : Grant} (present : s.ownerPresent g = true) : s.attached g.owner = true := by
  simp only [State.ownerPresent, Bool.and_eq_true] at present
  exact present.1

/-- A notice about a grant reaches its owner under R30's condition, and no other host. -/
theorem postOwner_outbox (s : State) (g : Grant) (n : Notice) (h : HostId) :
    (s.postOwner g n).outbox h =
      if g.owner = h ∧ s.ownerPresent g = true then arrive n (s.outbox h) else s.outbox h := by
  unfold State.postOwner
  by_cases present : s.ownerPresent g = true
  · have att := attached_of_ownerPresent present
    rw [if_pos present, post_outbox]
    simp [att, present, eq_comm]
  · simp [present]

/-- GRANT_REVOKED is posted for SHED, FORCED and RESET (R32). -/
theorem postRevoked_outbox (s : State) (c : ChanId) (g : Grant) (k : ReleaseCause) (h : HostId) :
    (s.postRevoked c g k).outbox h =
      if (k = .shed ∨ k = .forced ∨ k = .reset) ∧ g.owner = h ∧ s.ownerPresent g = true then
        arrive (.grantRevoked c g.number k) (s.outbox h)
      else s.outbox h := by
  cases k <;> simp [State.postRevoked, postOwner_outbox]

/-- GRANT_ENDED is posted for every recorded cause but TEARDOWN (R33). -/
theorem postEnded_outbox {s : State} {c : ChanId} {g : Grant} {k : ReleaseCause} (cause : g.cause = some k) (h : HostId) :
    (s.postEnded c g).outbox h =
      if k ≠ .teardown ∧ g.owner = h ∧ s.ownerPresent g = true then arrive (.grantEnded c g.number k) (s.outbox h)
      else s.outbox h := by
  cases k <;> simp [State.postEnded, cause, postOwner_outbox]

/-! ### The records -/

/-- The records of a grant that ends (R8, R31). -/
theorem removeGrant_eq (s : State) (c : ChanId) (g : Grant) (after : ChanState) :
    s.removeGrant c g after =
      { s with
        budget :=
          { s.budget with
            reserved := s.budget.reserved - g.amount
            releasing :=
              if (s.chan c).state = .discharging then s.budget.releasing - g.amount else s.budget.releasing }
        grants :=
          { s.grants with
            slots := s.grants.slots.upd c fun _ => none
            admission := s.grants.admission.erase c
            hostReserved := s.grants.hostReserved.upd g.owner (· - g.amount) }
        channels := s.channels.upd c fun _ => Channel.rest after } := by
  simp only [State.removeGrant, State.withReleasing, State.withReserved, State.withHostReserved, State.withSlot,
    State.withAdmission, State.withChannel]

/-- The outboxes have no part in the records of a grant that ends. -/
theorem removeGrant_outboxes (s : State) (c : ChanId) (g : Grant) (after : ChanState) (boxes : Table 4 (List OutEntry)) :
    State.removeGrant c g after { s with outboxes := boxes } = { s.removeGrant c g after with outboxes := boxes } := by
  rw [removeGrant_eq, removeGrant_eq]
  rfl

/-- The notice of an end is the same whatever the records are. -/
theorem postEnded_outboxes_congr {s t : State} (sessions : t.sessions = s.sessions) (boxes : t.outboxes = s.outboxes)
    (c : ChanId) (g : Grant) : (t.postEnded c g).outboxes = (s.postEnded c g).outboxes := by
  have same (h : HostId) : t.outbox h = s.outbox h := by simp [State.outbox, boxes]
  cases cause : g.cause with
  | none => simp [State.postEnded, cause, boxes]
  | some k =>
    refine Table.ext_read fun h => (postEnded_outbox cause h).trans (Eq.trans ?_ (postEnded_outbox (s := s) cause h).symm)
    rw [ownerPresent_congr sessions, same]

/-- The cause recorded before a grant ends leaves with it. -/
theorem removeGrant_markCause (s : State) (c : ChanId) (g : Grant) (k : ReleaseCause) (after : ChanState) :
    (s.markCause c k).removeGrant c g after = s.removeGrant c g after := by
  rw [removeGrant_eq, removeGrant_eq]
  simp [State.markCause, State.withSlot, Table.upd_upd]
  rfl

theorem markCause_eq {s : State} {c : ChanId} {g : Grant} (slot : s.slot c = some g) (k : ReleaseCause) :
    s.markCause c k =
      { s with grants := { s.grants with slots := s.grants.slots.upd c fun _ => some { g with cause := some k } } } := by
  have read : s.grants.slots.read c = some g := slot
  rw [State.markCause, State.withSlot, Table.upd_congr (g := fun _ => some { g with cause := some k }) _ _ (by simp [read])]

/-! ### The end of CLOSING -/

theorem holdsAny_eq_false {s : State} {h : HostId} : s.holdsAny h = false ↔ ∀ c, s.holds h c = false := by
  simp [State.holdsAny, mem_allChannels]

theorem endClosing_eq (s : State) (h : HostId) : s.endClosing h = { s with sessions := (s.endClosing h).sessions } := by
  unfold State.endClosing
  split <;> rfl

/-- CLOSING ends for the host alone, and only where it holds no grant (R139). -/
theorem endClosing_session (s : State) (h k : HostId) :
    (s.endClosing h).session k =
      if k = h ∧ (s.session k).state = .closing ∧ ∀ c, s.holds k c = false then { s.session k with state := .detached }
      else s.session k := by
  unfold State.endClosing
  simp only [holdsAny_eq_false]
  by_cases e : k = h
  · subst e
    split
    · next ends => simp [State.withSession_session, ends]
    · next stays => simp [stays]
  · simp only [e, false_and, if_false]
    split
    · simp [State.withSession_session, e]
    · rfl

theorem endClosing_of_attached {s : State} {h : HostId} (att : s.attached h = true) : s.endClosing h = s := by
  unfold State.endClosing
  have : (s.session h).state = .attached := by simpa [State.attached] using att
  simp [this]

/-- A scan changes no session. -/
theorem scanQueue_sessions (s : State) : s.scanQueue.sessions = s.sessions := by
  have created (e : WaitEntry) (is : List Item) : ∀ u : State, (u.createGrants e is).1.sessions = u.sessions := by
    induction is with
    | nil => exact fun _ => rfl
    | cons i rest ih => exact fun u => (ih _).trans (State.createGrant_sessions ..)
  refine scanWalk_relates (r := fun s t => t.sessions = s.sessions) (fun _ => rfl) (fun a b => b.trans a)
    (fun u e _ => ?_) (fun u h n => by rw [State.post_eq]) ..
  rw [State.admitEntry, State.takeOut, State.setEntries_eq]
  exact created ..

/-! ### Releases -/

theorem releaseGrant_of_gated {s : State} {c : ChanId} {g : Grant} (slot : s.slot c = some g)
    (state : (s.chan c).state = .ramping ∨ (s.chan c).state = .on) (k : ReleaseCause) :
    s.releaseGrant c k = ((s.markCause c k).postRevoked c g k).startDischarge c g := by
  unfold State.releaseGrant
  rcases state with state | state <;> simp [slot, state]

theorem releaseGrant_of_ungated {s : State} {c : ChanId} {g : Grant} (slot : s.slot c = some g)
    (state : (s.chan c).state = .checking ∨ (s.chan c).state = .holdoff ∨ (s.chan c).state = .latched) (k : ReleaseCause) :
    s.releaseGrant c k = ((s.markCause c k).postRevoked c g k).endToIdle c := by
  unfold State.releaseGrant
  rcases state with state | state | state <;> simp [slot, state]

theorem releaseGrant_of_discharging {s : State} {c : ChanId} (state : (s.chan c).state = .discharging) (k : ReleaseCause) :
    s.releaseGrant c k = s := by
  unfold State.releaseGrant
  split <;> simp [state]

/-- A release with the gate on begins the discharge, after GRANT_REVOKED (R32, R86). -/
theorem releaseGrant_discharges {s : State} {c : ChanId} {g : Grant} (slot : s.slot c = some g)
    (state : (s.chan c).state = .ramping ∨ (s.chan c).state = .on) (k : ReleaseCause) :
    s.releaseGrant c k =
      { s with
        grants := { s.grants with slots := s.grants.slots.upd c fun _ => some { g with cause := some k } }
        budget := { s.budget with releasing := s.budget.releasing + g.amount }
        channels := s.channels.upd c fun ch =>
          { ch with
            state := .discharging, gate := false, timer := some { kind := .discharge, expiry := s.now + ms 200 } }
        meas := s.meas.upd c fun m => { m with overdraw := 0 }
        outboxes := (s.postRevoked c g k).outboxes } := by
  have posted : ((s.markCause c k).postRevoked c g k).outboxes = (s.postRevoked c g k).outboxes :=
    Table.ext_read fun h => (postRevoked_outbox ..).trans (postRevoked_outbox s c g k h).symm
  rw [releaseGrant_of_gated slot state, State.postRevoked_eq, posted, markCause_eq slot]
  rfl

/-- A grant that ends into IDLE: its records, its notice, a scan, and the end of CLOSING (R31). -/
theorem endToIdle_eq {s : State} {c : ChanId} {g : Grant} (slot : s.slot c = some g) :
    s.endToIdle c =
      (State.scanQueue { s.removeGrant c g .idle with outboxes := (s.postEnded c g).outboxes }).endClosing g.owner := by
  have posted : ((s.removeGrant c g .idle).postEnded c g).outboxes = (s.postEnded c g).outboxes :=
    postEnded_outboxes_congr (by rw [removeGrant_eq]) (by rw [removeGrant_eq]) c g
  unfold State.endToIdle
  rw [slot, ← posted, ← State.postEnded_eq]

/-- A release with the gate off ends the grant: its records, the notices to the owner, then a scan and the end of CLOSING
(R31, R32, R33). -/
theorem releaseGrant_ends {s : State} {c : ChanId} {g : Grant} (slot : s.slot c = some g)
    (state : (s.chan c).state = .checking ∨ (s.chan c).state = .holdoff ∨ (s.chan c).state = .latched) (k : ReleaseCause) :
    s.releaseGrant c k =
      (State.scanQueue
        { s.removeGrant c g .idle with
          outboxes := ((s.postRevoked c g k).postEnded c { g with cause := some k }).outboxes }).endClosing g.owner := by
  let r := (s.markCause c k).postRevoked c g k
  have slotR : r.slot c = some { g with cause := some k } := by simp [r, State.markCause_slot, slot]
  have posted : r.outboxes = (s.postRevoked c g k).outboxes :=
    Table.ext_read fun h => (postRevoked_outbox ..).trans (postRevoked_outbox s c g k h).symm
  have ended : (r.postEnded c { g with cause := some k }).outboxes =
      ((s.postRevoked c g k).postEnded c { g with cause := some k }).outboxes :=
    postEnded_outboxes_congr (by rw [State.postRevoked_eq s]; simp only [r]; rw [State.postRevoked_eq]; rfl) posted c _
  have records : r = { s.markCause c k with outboxes := r.outboxes } := State.postRevoked_eq ..
  rw [releaseGrant_of_ungated slot state, endToIdle_eq slotR, ended, records, removeGrant_outboxes]
  rw [show (s.markCause c k).removeGrant c { g with cause := some k } .idle = s.removeGrant c g .idle from
    removeGrant_markCause s c g k .idle]

theorem not_discharging {st : ChanState} (state : st = .checking ∨ st = .holdoff ∨ st = .latched) : ¬ st = .discharging := by
  rcases state with rfl | rfl | rfl <;> simp

/-- GRANT_ENDED with cause RELEASED goes to the owner present. -/
theorem postEnded_released {s : State} {h : HostId} (c : ChanId) {g : Grant} (own : g.owner = h)
    (present : s.ownerPresent g = true) :
    (s.postEnded c { g with cause := some .released }).outboxes =
      s.outboxes.upd h (arrive (.grantEnded c g.number .released)) := by
  subst own
  refine Table.ext_read fun j => (postEnded_outbox rfl j).trans ?_
  have present' : s.ownerPresent { g with cause := some .released } = true := present
  simp [Table.read_upd, present', State.outbox, eq_comm]

/-- RELEASE by an owner present, the gate off: the grant ends, its owner is told, and a scan follows (R29, R31). -/
theorem releaseGrant_released {s : State} {h : HostId} {c : ChanId} {g : Grant} (slot : s.slot c = some g)
    (state : (s.chan c).state = .checking ∨ (s.chan c).state = .holdoff ∨ (s.chan c).state = .latched) (own : g.owner = h)
    (present : s.ownerPresent g = true) :
    s.releaseGrant c .released = State.scanQueue
      { s with
        grants :=
          { s.grants with
            slots := s.grants.slots.upd c fun _ => none
            admission := s.grants.admission.erase c
            hostReserved := s.grants.hostReserved.upd h (· - g.amount) }
        budget := { s.budget with reserved := s.budget.reserved - g.amount }
        channels := s.channels.upd c fun _ => Channel.rest .idle
        outboxes := s.outboxes.upd h (arrive (.grantEnded c g.number .released)) } := by
  have silent : s.postRevoked c g .released = s := rfl
  have att := attached_of_ownerPresent present
  rw [releaseGrant_ends slot state, silent, postEnded_released c own present, removeGrant_eq,
    if_neg (not_discharging state), endClosing_of_attached, own]
  rw [(acts_scanQueue _).quiet.attached]
  exact att

/-! ### RELEASE -/

theorem readChannelField_eq {b : Byte} {c : ChanId} (names : b.toNat = c.val) : readChannelField [b] = .ok c := by
  have chan : channelOf b.toNat = some c := by simp [channelOf, names]
  simp [readChannelField, chan]

/-- RELEASE of an owned grant releases it and answers with what came of it (R29). -/
theorem exec_release {s : State} {h : HostId} {f : Frame} {b : Byte} {c : ChanId} {g : Grant} (n : Served .release s h f)
    (body : f.body = [b]) (names : b.toNat = c.val) (slot : s.slot c = some g) (owns : s.owns h c = true) :
    ((s.chan c).state = .ramping ∨ (s.chan c).state = .on →
      exec .release s = .next (((taken s h).releaseGrant c .released).respond h f (.release c g.number .discharging))) ∧
    ((s.chan c).state = .checking ∨ (s.chan c).state = .holdoff ∨ (s.chan c).state = .latched →
      exec .release s = .next (((taken s h).releaseGrant c .released).respond h f (.release c g.number .ended))) := by
  have row : exec .release s = .next ((taken s h).releaseChecked h f c) := by
    change Host.Outcome.next (s.taking .release handleRelease) = _
    rw [taking_served n, handleRelease, body, readChannelField_eq names]
  have own : (taken s h).owns h c = true := by simpa using owns
  refine ⟨fun state => row.trans ?_, fun state => row.trans ?_⟩
  · rcases state with state | state <;> simp [State.releaseChecked, slot, own, state]
  · rcases state with state | state | state <;> simp [State.releaseChecked, slot, own, state]

theorem ownerPresent_of_owns {s : State} {h : HostId} {c : ChanId} {g : Grant} (slot : s.slot c = some g)
    (owns : s.owns h c = true) (att : s.attached h = true) : g.owner = h ∧ s.ownerPresent g = true := by
  simp only [State.owns, slot, Bool.and_eq_true, beq_iff_eq] at owns
  obtain ⟨rfl, epoch⟩ := owns
  simp [State.ownerPresent, att, epoch]

/-- Settles O17: RELEASE through the release operation on the state its taking leaves, and the operation for every cause. -/
theorem releaseEndsOrDischargesTheGrant : Obligations.ReleaseEndsOrDischargesTheGrant := by
  refine ⟨fun s h f b c g n body names slot owns => ?request, fun s c g k slot => ?operation⟩
  case request =>
    obtain ⟨discharges, ends⟩ := exec_release n body names slot owns
    have slotT : (taken s h).slot c = some g := slot
    obtain ⟨own, present⟩ := ownerPresent_of_owns slot owns n.2
    refine ⟨fun state => (discharges state).trans ?_, fun state => ?_⟩
    · rw [releaseGrant_discharges slotT state]
      rfl
    · refine ⟨_, ends state, ?_⟩
      rw [releaseGrant_released slotT state own (by simpa using present)]
      rfl
  case operation =>
    refine ⟨fun state => ⟨_, releaseGrant_discharges slot state k, fun h => postRevoked_outbox s c g k h, rfl⟩,
      fun state => ⟨_, releaseGrant_ends slot state k, fun h => ?_, ?_⟩, fun state => releaseGrant_of_discharging state k⟩
    · refine (postEnded_outbox rfl h).trans ?_
      rw [postRevoked_outbox]
      have present : (s.postRevoked c g k).ownerPresent { g with cause := some k } = s.ownerPresent g :=
        ownerPresent_congr (by rw [State.postRevoked_eq]) g
      rw [present]
    · rw [removeGrant_eq, if_neg (not_discharging state)]

end Sys2Proof
end

section
/-! The two ends of a discharge (R87, R88): with the output off into IDLE, at the window's expiry into FAULTED. -/

namespace Sys2Proof

open Machine

/-! ### The state a discharge ends in -/

/-- The records of a discharged grant taken out: slot, admission list and all three totals (R8, R31). -/
def withoutGrant (s : State) (c : ChanId) (g : Grant) : State :=
  { s with
    budget :=
      { s.budget with reserved := s.budget.reserved - g.amount, releasing := s.budget.releasing - g.amount }
    grants :=
      { s.grants with
        slots := s.grants.slots.upd c fun _ => none
        admission := s.grants.admission.erase c
        hostReserved := s.grants.hostReserved.upd g.owner (· - g.amount) } }

theorem removeGrant_of_discharging {s : State} {c : ChanId} (g : Grant) (state : (s.chan c).state = .discharging)
    (after : ChanState) :
    s.removeGrant c g after = { withoutGrant s c g with channels := s.channels.upd c fun _ => Channel.rest after } := by
  rw [removeGrant_eq, if_pos state]
  rfl

/-- A grant that ends into FAULTED: its records, its notice, a scan, the quarantine's notices and removals, and the end of
CLOSING (R31, R59, R88). -/
theorem endToFaulted_eq {s : State} {c : ChanId} {g : Grant} (slot : s.slot c = some g) :
    s.endToFaulted c =
      ((State.scanQueue { s.removeGrant c g .faulted with outboxes := (s.postEnded c g).outboxes }).announceFault c).endClosing
        g.owner := by
  have posted : ((s.removeGrant c g .faulted).postEnded c g).outboxes = (s.postEnded c g).outboxes :=
    postEnded_outboxes_congr (by rw [removeGrant_eq]) (by rw [removeGrant_eq]) c g
  unfold State.endToFaulted
  rw [slot, ← posted, ← State.postEnded_eq]

/-- The sessions after the end of a grant: CLOSING ends for its owner, should it hold no other (R139). -/
theorem session_of_endClosing {s t x : State} {o : HostId} (before : x.sessions = s.sessions)
    (sessions : t.sessions = (x.endClosing o).sessions) (grants : t.grants = x.grants) (h : HostId) :
    t.session h =
      if h = o ∧ (s.session h).state = .closing ∧ ∀ d, t.holds h d = false then { s.session h with state := .detached }
      else s.session h := by
  have same : x.session h = s.session h := by simp [State.session, before]
  have holds (d : ChanId) : t.holds h d = x.holds h d := holds_congr (by simp [State.slot, grants]) h
  have after : t.session h = (x.endClosing o).session h := by simp [State.session, sessions]
  simp only [after, endClosing_session, same, holds]

/-- With no grant of the owner left, CLOSING has ended. -/
theorem closing_ended {s t : State} {c : ChanId} {h o : HostId} (slots : t.grants.slots = s.grants.slots.upd c fun _ => none)
    (session : t.session h =
      if h = o ∧ (s.session h).state = .closing ∧ ∀ d, t.holds h d = false then { s.session h with state := .detached }
      else s.session h)
    (own : h = o) (closing : (s.session h).state = .closing) (others : ∀ d, d ≠ c → s.holds h d = false) :
    t.session h = { s.session h with state := .detached } := by
  have slot (d : ChanId) : t.slot d = if d = c then none else s.slot d := by
    rw [State.slot, slots, Table.read_upd]
    rfl
  have none (d : ChanId) : t.holds h d = false := by
    by_cases e : d = c
    · exact holds_of_empty (by simp [slot, e]) h
    · exact (holds_congr (by simp [slot, e]) h).trans (others d e)
  exact session.trans (if_pos ⟨own, closing, none⟩)

/-! ### The sample with the output off -/

/-- The state in which the sequencer gets a sample: recorded, and counted to the tally of the channel's holder (R109). -/
def sampled (s : State) (c : ChanId) (r : Reading) : State :=
  (s.withMeasure c fun m => { m.record s.config.averaging r with overdraw := s.countAfter c r }).tallySample c (powerOf r)

theorem sampled_eq (s : State) (c : ChanId) (r : Reading) :
    sampled s c r = { s with meas := (sampled s c r).meas, tallies := (sampled s c r).tallies } := by
  unfold sampled State.tallySample
  split <;> rfl

/-- A sample with the output off ends the discharge (R87). -/
theorem sampleEvent_of_discharging {s : State} {c : ChanId} {r : Reading} (state : (s.chan c).state = .discharging)
    (off : 20 * r.output < r.bus) : s.sampleEvent c r = (sampled s c r).endToIdle c := by
  have verdict : s.verdict c r = .none := by simp [State.verdict, state]
  have same : ((sampled s c r).chan c).state = .discharging := by
    rw [sampled_eq]
    exact state
  have out : outputOff r = true := by simpa [outputOff] using off
  have event : s.sampleEvent c r =
      (sampled s c r).sampleArrival c (outputOff r) (outputGood (s.settings c).pgInput r) (s.verdict c r) := rfl
  rw [event, verdict, State.sampleArrival, same, out]
  rfl

/-! ### The claim -/

section Claim
variable {s : State} {c : ChanId} {g : Grant} (slot : s.slot c = some g)
  (state : (s.chan c).state = .discharging)
include slot state

/-- The slot completion at which a discharged output is off, as one state before the scan (R87, R109). -/
theorem exec_slotCompletion_of_discharging {sc : Scan} {r : Reading} (scan : s.scan = some sc) (here : sc.slot = c)
    (off : 20 * (sampleOf r).output < (sampleOf r).bus) :
    exec (.slotCompletion c r) s = .next
      (((State.scanQueue
          { withoutGrant s c g with
            now := max s.now sc.ends
            scan := some { slot := c + 1, ends := sc.ends + 1 }
            channels := s.channels.upd c fun _ => Channel.rest .idle
            meas := (sampled (s.advanceScan sc) c (sampleOf r)).meas
            tallies := (sampled (s.advanceScan sc) c (sampleOf r)).tallies
            outboxes := (s.postEnded c g).outboxes }).endClosing g.owner).countRound c) := by
  subst here
  change Host.Outcome.next (s.completeSlot sc.slot r) = _
  have stateA : ((s.advanceScan sc).chan sc.slot).state = .discharging := state
  rw [State.completeSlot_of_slot scan rfl, sampleEvent_of_discharging stateA off]
  have eq := sampled_eq (s.advanceScan sc) sc.slot (sampleOf r)
  generalize sampled (s.advanceScan sc) sc.slot (sampleOf r) = p at eq ⊢
  have slotP : p.slot sc.slot = some g := by rw [eq]; exact slot
  have stateP : (p.chan sc.slot).state = .discharging := by rw [eq]; exact state
  have told : (p.postEnded sc.slot g).outboxes = (s.postEnded sc.slot g).outboxes :=
    postEnded_outboxes_congr (by rw [eq]; rfl) (by rw [eq]; rfl) _ g
  have records : withoutGrant p sc.slot g =
      { withoutGrant s sc.slot g with
        now := max s.now sc.ends, scan := some { slot := sc.slot + 1, ends := sc.ends + 1 }, meas := p.meas
        tallies := p.tallies } := by
    rw [eq]
    rfl
  have channels : p.channels = s.channels := by rw [eq]; rfl
  rw [endToIdle_eq slotP, removeGrant_of_discharging g stateP, told, records, channels]

/-- The expiry of the discharge window, as the events of R31, R88 and R59 in their order. -/
theorem exec_dischargeTimerExpiry {e : Nat} (timer : (s.chan c).timer = some { kind := .discharge, expiry := e }) :
    exec (.dischargeTimerExpiry c) s = .next
      (((State.scanQueue
          { withoutGrant s c g with
            now := max s.now e
            channels := s.channels.upd c fun _ => Channel.rest .faulted
            outboxes := (s.postEnded c g).outboxes }).announceFault c).endClosing g.owner) := by
  have expiry : s.expiryOf c .discharge .discharging = some e := by simp [State.expiryOf, timer, state]
  have stateR : ((s.reach e).chan c).state = .discharging := state
  have told : ((s.reach e).postEnded c g).outboxes = (s.postEnded c g).outboxes :=
    postEnded_outboxes_congr (s := s) (t := s.reach e) rfl rfl c g
  have row : exec (.dischargeTimerExpiry c) s = .next ((s.reach e).endToFaulted c) := by
    simp only [exec, execDischargeTimerExpiry, expiry]
  rw [row, endToFaulted_eq (s := s.reach e) slot, removeGrant_of_discharging g stateR, told]
  rfl

end Claim

theorem keepsTaken_announceFault (s : State) (c : ChanId) : KeepsTaken s (s.announceFault c) := by
  have broadcast : KeepsTaken s (s.broadcast (.channelFaulted c)) := by
    rw [State.broadcast_eq]
    exact keepsTaken_of_same rfl rfl
  exact broadcast.trans (keepsTaken_failAndScan ..)

/-- No entry that names a channel stays once its fault has been announced (R59). -/
theorem names_of_mem_announceFault {s : State} {c : ChanId} {x : WaitEntry} (m : x ∈ (s.announceFault c).queue.entries) :
    x.names c = false := by
  unfold State.announceFault at m
  exact (mem_failAndScan m).2

/-- A channel entered FAULTED stays so through the scan and the announcement, and holds no grant (R88). -/
theorem faulted_announceFault {u : State} {c : ChanId} (faulted : u.chan c = Channel.rest .faulted) (empty : u.slot c = none) :
    (u.scanQueue.announceFault c).chan c = Channel.rest .faulted ∧ (u.scanQueue.announceFault c).slot c = none := by
  have keeps := (keepsTaken_scanQueue u).trans (keepsTaken_announceFault u.scanQueue c)
  obtain ⟨slot, chan⟩ := keeps.taken c fun free => by simp [Free, faulted, Channel.rest] at free
  exact ⟨chan.trans faulted, slot.trans empty⟩

theorem failAndScan_sessions (s : State) (p : WaitEntry → Bool) (k : FailCause) :
    (s.failAndScan p k).sessions = s.sessions := by
  unfold State.failAndScan
  split
  · rw [scanQueue_sessions, failEntries_eq, State.setEntries_eq, postFailed_eq]
  · rfl

theorem announceFault_sessions (s : State) (c : ChanId) : (s.announceFault c).sessions = s.sessions := by
  rw [State.announceFault, failAndScan_sessions, State.broadcast_eq]

/-- With nothing waiting, an announcement of the fault is its broadcast. -/
theorem announceFault_of_empty {s : State} (empty : s.queue.entries = []) (c : ChanId) :
    s.announceFault c = s.broadcast (.channelFaulted c) := by
  have none : (s.broadcast (.channelFaulted c)).queue.entries = [] := by rw [State.broadcast_eq]; exact empty
  simp [State.announceFault, State.failAndScan, none]

/-- The sessions as an end of a grant of host o leaves them (R139). -/
def ClosingEnded (o : HostId) (s t : State) : Prop := ∀ h, t.session h =
  if h = o ∧ (s.session h).state = .closing ∧ ∀ d, t.holds h d = false then { s.session h with state := .detached }
  else s.session h

/-- From the records of an end into IDLE on: the scan, the end of CLOSING and the round. -/
theorem idle_course {s u : State} (sessions : u.sessions = s.sessions) (o : HostId) (c : ChanId) :
    ∃ t, (u.scanQueue.endClosing o).countRound c = t ∧ t.now = u.now ∧ ClosingEnded o s t ∧
      t = { u.scanQueue.endClosing o with rounds := t.rounds, ready := t.ready } ∧
      (u.queue.entries = [] → t = { u with sessions := t.sessions, rounds := t.rounds, ready := t.ready }) := by
  obtain ⟨t, t_eq⟩ : ∃ t, t = (u.scanQueue.endClosing o).countRound c := ⟨_, rfl⟩
  have counted : t = { u.scanQueue.endClosing o with rounds := t.rounds, ready := t.ready } :=
    t_eq ▸ State.countRound_eq ..
  refine ⟨t, t_eq.symm, ?_, ?_, counted, fun empty => ?_⟩
  · rw [counted]
    exact (quiet_endClosing ..).now.trans (acts_scanQueue u).quiet.now
  · exact session_of_endClosing (x := u.scanQueue) ((scanQueue_sessions u).trans sessions) (by rw [counted])
      (by rw [counted, endClosing_eq])
  · rw [scanQueue_of_empty empty, endClosing_eq] at counted
    rw [counted]

/-- From the records of an end into FAULTED on: the scan, the quarantine's notices and removals, and the end of CLOSING. -/
theorem faulted_course {s u : State} {c : ChanId} (sessions : u.sessions = s.sessions) (o : HostId)
    (faulted : u.chan c = Channel.rest .faulted) (vacant : u.slot c = none) :
    ∃ t v w, (u.scanQueue.announceFault c).endClosing o = t ∧ t.now = u.now ∧ ClosingEnded o s t ∧
      t.chan c = Channel.rest .faulted ∧ t.slot c = none ∧ (∀ x ∈ t.queue.entries, x.names c = false) ∧
      Broadcast (.channelFaulted c) u.scanQueue v ∧ Failed (WaitEntry.names c) .channelFaulted v w ∧
      t = State.endClosing o (scannedWithout (WaitEntry.names c) v w) ∧
      (u.queue.entries = [] →
        t = { u with sessions := t.sessions, outboxes := (u.broadcast (.channelFaulted c)).outboxes }) := by
  obtain ⟨x, x_eq⟩ : ∃ x, x = u.scanQueue.announceFault c := ⟨_, rfl⟩
  obtain ⟨t, t_eq⟩ : ∃ t, t = x.endClosing o := ⟨_, rfl⟩
  have quiet : Quiet u x := x_eq ▸ ((acts_scanQueue u).trans (acts_announceFault ..)).quiet
  have before : x.sessions = s.sessions := by rw [x_eq, announceFault_sessions, scanQueue_sessions, sessions]
  have ended : t = { x with sessions := t.sessions } := t_eq ▸ endClosing_eq ..
  obtain ⟨faulted', vacant'⟩ : x.chan c = Channel.rest .faulted ∧ x.slot c = none :=
    x_eq ▸ faulted_announceFault faulted vacant
  let v := u.scanQueue.broadcast (.channelFaulted c)
  refine ⟨t, v, v.postFailed .channelFaulted (v.queue.entries.filter (WaitEntry.names c)), by rw [t_eq, x_eq], ?_, ?_, ?_, ?_,
    fun y m => ?_, broadcast_broadcast .., failed_postFailed .., ?_, fun empty => ?_⟩
  · rw [ended]
    exact quiet.now
  · exact session_of_endClosing before (by rw [t_eq]) (by rw [ended])
  · rw [ended]
    exact faulted'
  · rw [ended]
    exact vacant'
  · have mx : y ∈ x.queue.entries := by rwa [ended] at m
    rw [x_eq] at mx
    exact names_of_mem_announceFault mx
  · rw [t_eq, x_eq, State.announceFault, failAndScan_eq]
  · rw [x_eq, scanQueue_of_empty empty, announceFault_of_empty empty, State.broadcast_eq] at ended
    dsimp only at ended
    exact ended

/-- Settles O32: both ends of a discharge, taken apart into records, notice, scan, quarantine and the end of CLOSING. -/
theorem dischargeEndsTheGrant : Obligations.DischargeEndsTheGrant := by
  intro s c g k slot state cause Ended gone Sessions Alone
  have told (h : HostId) : (s.postEnded c g).outboxes.read h = Ended h := postEnded_outbox cause h
  have alone {t : State} (budget : t.budget = gone.budget) (grants : t.grants = gone.grants)
      (chan : ∀ d, d ≠ c → t.chan d = s.chan d) (sessions : Sessions t) : Alone t :=
    ⟨budget, grants, chan, fun h => closing_ended (by rw [grants]) (sessions h)⟩
  have elsewhere (after : ChanState) (d : ChanId) (ne : d ≠ c) :
      (s.channels.upd c fun _ => Channel.rest after).read d = s.chan d := Table.read_upd_of_ne _ _ ne
  refine ⟨fun sc r scan here off => ?off, fun e timer => ?expiry⟩
  case off =>
    have run := exec_slotCompletion_of_discharging slot state scan here off
    let u : State :=
      { withoutGrant s c g with
        now := max s.now sc.ends
        scan := some { slot := c + 1, ends := sc.ends + 1 }
        channels := s.channels.upd c fun _ => Channel.rest .idle
        meas := (sampled (s.advanceScan sc) c (sampleOf r)).meas
        tallies := (sampled (s.advanceScan sc) c (sampleOf r)).tallies
        outboxes := (s.postEnded c g).outboxes }
    obtain ⟨t, t_eq, now, sessions, counted, unqueued⟩ := idle_course (s := s) (u := u) rfl g.owner c
    rw [t_eq] at run
    refine ⟨t, u, run, now, sessions, rfl, told, counted, fun empty => ?_⟩
    have form := unqueued empty
    refine ⟨?_, alone (by rw [form]; rfl) (by rw [form]; rfl) (by rw [form]; exact elsewhere .idle) sessions, ?_,
      by rw [form]; rfl⟩
    · rw [form]
      exact Table.read_upd_self ..
    · rw [form]
      exact told
  case expiry =>
    have run := exec_dischargeTimerExpiry slot state timer
    let u : State :=
      { withoutGrant s c g with
        now := max s.now e
        channels := s.channels.upd c fun _ => Channel.rest .faulted
        outboxes := (s.postEnded c g).outboxes }
    obtain ⟨t, v, w, t_eq, now, sessions, chan, vacant, unnamed, broadcast, failed, course, unqueued⟩ :=
      faulted_course (s := s) (u := u) (c := c) rfl g.owner (Table.read_upd_self ..) (Table.read_upd_self ..)
    rw [t_eq] at run
    refine ⟨t, u, v, w, run, now, sessions, chan, vacant, unnamed, rfl, told, broadcast, failed, course, fun empty => ?_⟩
    have form := unqueued empty
    refine ⟨alone (by rw [form]; rfl) (by rw [form]; rfl) (by rw [form]; exact elsewhere .faulted) sessions, fun h => ?_,
      by rw [form]; dsimp only; rfl⟩
    have box : t.outbox h = (u.broadcast (.channelFaulted c)).outbox h := by
      rw [form]
      simp only [State.outbox]
    have absent (no : ¬ s.attached h = true) : Ended h = s.outbox h := by
      refine if_neg fun here => no ?_
      obtain ⟨-, own, present⟩ := here
      exact own ▸ attached_of_ownerPresent present
    have boxU : u.outbox h = Ended h := told h
    rw [box, broadcast_outbox, boxU]
    by_cases att : s.attached h = true
    · exact (if_pos att).trans (if_pos att).symm
    · exact ((if_neg att).trans (absent att)).trans (if_neg att).symm

end Sys2Proof
end

section
/-! Adoption of RESET_PART (R165): with the queue emptied first, releases and a recomputation only take grants away, and after
every release no grant stands. -/

namespace Sys2Proof

open Machine

/-! ### Releases with nothing waiting -/

/-- Every grant that is not DISCHARGING has an attached owner (R71). -/
def Owned (s : State) : Prop := ∀ c g, s.slot c = some g → (s.chan c).state ≠ .discharging → s.attached g.owner = true

/-- A channel that holds a grant is neither IDLE nor FAULTED (R20). -/
def Occupied (s : State) : Prop := ∀ c, (s.slot c).isSome = true → ¬ ((s.chan c).state = .idle ∨ (s.chan c).state = .faulted)

/-- From `s` to `t` grants only discharge or leave, and no session but that of a host CLOSING moves. -/
structure Vacates (s t : State) : Prop where
  queue      : t.queue = s.queue
  nextNumber : t.grants.nextNumber = s.grants.nextNumber
  held       : ∀ c g, t.slot c = some g → ∃ k, s.slot c = some k ∧ k.number = g.number ∧ k.owner = g.owner
  chan       : ∀ c, (t.slot c).isSome = true → t.chan c = s.chan c ∨ (t.chan c).state = .discharging
  atRest     : ∀ c, (s.chan c).state = .faulted ∨ (s.chan c).state = .idle → t.chan c = s.chan c
  session    : ∀ h, s.attached h = true → t.session h = s.session h
  sessions   : Owned s → t.sessions = s.sessions

namespace Vacates

theorem of_same {s t : State} (queue : t.queue = s.queue) (grants : t.grants = s.grants) (channels : t.channels = s.channels)
    (sessions : t.sessions = s.sessions) : Vacates s t where
  queue := queue
  nextNumber := by rw [grants]
  held c g slot := ⟨g, by simpa [State.slot, grants] using slot, rfl, rfl⟩
  chan c _ := .inl (by simp [State.chan, channels])
  atRest c _ := by simp [State.chan, channels]
  session h _ := by simp [State.session, sessions]
  sessions _ := sessions

theorem refl (s : State) : Vacates s s := .of_same rfl rfl rfl rfl

section
variable {s t : State} (h : Vacates s t)
include h

theorem isSome {c : ChanId} (some : (t.slot c).isSome = true) : (s.slot c).isSome = true := by
  obtain ⟨g, slot⟩ := Option.isSome_iff_exists.1 some
  obtain ⟨k, slot', -⟩ := h.held c g slot
  simp [slot']

theorem owned (own : Owned s) : Owned t := by
  intro c g slot state
  obtain ⟨k, slot', -, owner⟩ := h.held c g slot
  have same := (h.chan c (by simp [slot])).resolve_right state
  have att : s.attached g.owner = true := owner ▸ own c k slot' (same ▸ state)
  rwa [State.attached, h.session _ att]

theorem occupied (occ : Occupied s) : Occupied t := by
  intro c some
  rcases h.chan c some with same | discharging
  · exact same ▸ occ c (h.isSome some)
  · simp [discharging]

theorem firm_of_firm {c : ChanId} (f : firm t c = true) : firm s c = true := by
  obtain ⟨g, slot, state⟩ := firm_iff.1 f
  obtain ⟨k, slot', -⟩ := h.held c g slot
  have same := (h.chan c (by simp [slot])).resolve_right state
  exact firm_iff.2 ⟨k, slot', same ▸ state⟩

theorem trans {u : State} (k : Vacates t u) : Vacates s u where
  queue := k.queue.trans h.queue
  nextNumber := k.nextNumber.trans h.nextNumber
  held c g slot := by
    obtain ⟨g', slot', number, owner⟩ := k.held c g slot
    obtain ⟨g'', slot'', number', owner'⟩ := h.held c g' slot'
    exact ⟨g'', slot'', number'.trans number, owner'.trans owner⟩
  chan c some := by
    rcases k.chan c some with same | discharging
    · exact same ▸ h.chan c (k.isSome some)
    · exact .inr discharging
  atRest c rest := by
    have same := h.atRest c rest
    exact (k.atRest c (by rwa [same])).trans same
  session j att := by
    have same := h.session j att
    exact (k.session j (by rwa [State.attached, same])).trans same
  sessions own := (k.sessions (h.owned own)).trans (h.sessions own)

end

end Vacates

/-- A grant that begins its discharge. -/
theorem vacates_discharge {s : State} {c : ChanId} {g : Grant} (slot : s.slot c = some g)
    (state : (s.chan c).state = .ramping ∨ (s.chan c).state = .on) (k : ReleaseCause) : Vacates s (s.releaseGrant c k) := by
  rw [releaseGrant_discharges slot state]
  constructor
  case queue => rfl
  case nextNumber => rfl
  case held =>
    intro d j held
    by_cases e : d = c
    · subst e
      obtain rfl : { g with cause := some k } = j := by simpa [State.slot, Table.read_upd] using held
      exact ⟨g, slot, rfl, rfl⟩
    · exact ⟨j, by simpa [State.slot, Table.read_upd, e] using held, rfl, rfl⟩
  case chan =>
    intro d _
    by_cases e : d = c
    · exact .inr (by simp [State.chan, e])
    · exact .inl (by simp [State.chan, Table.read_upd, e])
  case atRest =>
    intro d rest
    have e : d ≠ c := by rintro rfl; rcases state with h | h <;> simp [h] at rest
    simp [State.chan, Table.read_upd, e]
  case session => exact fun _ _ => rfl
  case sessions => exact fun _ => rfl

/-- With nothing waiting, a release with the gate off takes the grant's records and may end its owner's CLOSING, no more. -/
theorem releaseGrant_ends_of_empty {s : State} {c : ChanId} {g : Grant} (empty : s.queue.entries = [])
    (slot : s.slot c = some g)
    (state : (s.chan c).state = .checking ∨ (s.chan c).state = .holdoff ∨ (s.chan c).state = .latched) (k : ReleaseCause) :
    ∃ u : State, s.releaseGrant c k = u.endClosing g.owner ∧ u.queue = s.queue ∧ u.sessions = s.sessions ∧
      u.grants.nextNumber = s.grants.nextNumber ∧ (∀ d, u.slot d = if d = c then none else s.slot d) ∧
      ∀ d, u.chan d = if d = c then Channel.rest .idle else s.chan d := by
  obtain ⟨u, u_eq⟩ : ∃ u, u = { s.removeGrant c g .idle with
      outboxes := ((s.postRevoked c g k).postEnded c { g with cause := some k }).outboxes } := ⟨_, rfl⟩
  have grants : u.grants = (s.removeGrant c g .idle).grants := by rw [u_eq]
  have channels : u.channels = (s.removeGrant c g .idle).channels := by rw [u_eq]
  have queue : u.queue = s.queue := by rw [u_eq, removeGrant_eq]
  refine ⟨u, ?_, queue, ?_, ?_, fun d => ?_, fun d => ?_⟩
  · rw [releaseGrant_ends slot state, ← u_eq, scanQueue_of_empty (queue ▸ empty)]
  · rw [u_eq, removeGrant_eq]
  · rw [grants, removeGrant_eq]
  · rw [State.slot, grants]
    exact removeGrant_slot ..
  · rw [State.chan, channels]
    exact removeGrant_chan ..

/-- A grant that ends, with nothing waiting for what it held. -/
theorem vacates_end {s : State} {c : ChanId} {g : Grant} (empty : s.queue.entries = []) (slot : s.slot c = some g)
    (state : (s.chan c).state = .checking ∨ (s.chan c).state = .holdoff ∨ (s.chan c).state = .latched) (k : ReleaseCause) :
    Vacates s (s.releaseGrant c k) := by
  obtain ⟨u, ended, queue, sessions, number, slots, chans⟩ := releaseGrant_ends_of_empty empty slot state k
  have session (h : HostId) : u.session h = s.session h := by simp [State.session, sessions]
  have form := ended.trans (endClosing_eq u g.owner)
  have slot' (d : ChanId) : (s.releaseGrant c k).slot d = if d = c then none else s.slot d := by
    rw [form]
    exact slots d
  have chan' (d : ChanId) : (s.releaseGrant c k).chan d = if d = c then Channel.rest .idle else s.chan d := by
    rw [form]
    exact chans d
  constructor
  case queue => rw [form, ← queue]
  case nextNumber => rw [form, ← number]
  case held =>
    intro d j held
    rw [slot'] at held
    split at held
    · cases held
    · exact ⟨j, held, rfl, rfl⟩
  case chan =>
    intro d some
    rw [slot'] at some
    split at some
    · cases some
    · next other => exact .inl ((chan' d).trans (if_neg other))
  case atRest =>
    intro d rest
    have other : d ≠ c := by rintro rfl; rcases state with h | h | h <;> simp [h] at rest
    rw [chan', if_neg other]
  case session =>
    intro h att
    have here : (s.session h).state = .attached := by simpa [State.attached] using att
    rw [ended, endClosing_session, session, if_neg (by simp [here])]
  case sessions =>
    intro own
    have att : u.attached g.owner = true := by
      rw [State.attached, session]
      exact own c g slot (not_discharging state)
    rw [ended, endClosing_of_attached att, sessions]

theorem vacates_releaseGrant {s : State} (empty : s.queue.entries = []) (c : ChanId) (k : ReleaseCause) :
    Vacates s (s.releaseGrant c k) := by
  cases slot : s.slot c with
  | none => simpa [State.releaseGrant, slot] using Vacates.refl s
  | some g =>
    cases state : (s.chan c).state with
    | ramping => exact vacates_discharge slot (.inl state) k
    | on => exact vacates_discharge slot (.inr state) k
    | checking => exact vacates_end empty slot (.inl state) k
    | holdoff => exact vacates_end empty slot (.inr (.inl state)) k
    | latched => exact vacates_end empty slot (.inr (.inr state)) k
    | idle | discharging | faulted => simpa [State.releaseGrant, slot, state] using Vacates.refl s

/-- A grant released does not stand. -/
theorem firm_releaseGrant {s : State} (empty : s.queue.entries = []) (occ : Occupied s) (c : ChanId) (k : ReleaseCause) :
    firm (s.releaseGrant c k) c = false := by
  cases slot : s.slot c with
  | none => simp [State.releaseGrant, firm, slot]
  | some g =>
    have discharged (state : (s.chan c).state = .ramping ∨ (s.chan c).state = .on) :
        firm (s.releaseGrant c k) c = false := by
      rw [releaseGrant_discharges slot state]
      simp [firm, standing, leaving, State.chan]
    have ended (state : (s.chan c).state = .checking ∨ (s.chan c).state = .holdoff ∨ (s.chan c).state = .latched) :
        firm (s.releaseGrant c k) c = false := by
      obtain ⟨u, form, -, -, -, slots, -⟩ := releaseGrant_ends_of_empty empty slot state k
      have vacant : (s.releaseGrant c k).slot c = none := by
        rw [form, endClosing_eq]
        exact (slots c).trans (if_pos rfl)
      simp [firm, vacant]
    have taken := occ c (by simp [slot])
    cases state : (s.chan c).state with
    | ramping => exact discharged (.inl state)
    | on => exact discharged (.inr state)
    | checking => exact ended (.inl state)
    | holdoff => exact ended (.inr (.inl state))
    | latched => exact ended (.inr (.inr state))
    | idle | faulted => simp [state] at taken
    | discharging => simp [releaseGrant_of_discharging state, firm, standing, leaving, state]

/-- Without a choice among them, the release of every grant is the release of each in turn. -/
theorem releaseAll_every (s : State) (k : ReleaseCause) :
    s.releaseAll (fun _ => true) k = s.grants.admission.foldl (fun t c => t.releaseGrant c k) s := by
  have step (t : State) (c : ChanId) (slot : t.slot c = none) : t.releaseGrant c k = t := by simp [State.releaseGrant, slot]
  unfold State.releaseAll
  congr
  funext t c
  split
  · next slot => exact (step t c slot).symm
  · rfl

/-- The release of some channels' grants in turn. -/
theorem vacates_releases (k : ReleaseCause) (list : List ChanId) : ∀ {s : State}, s.queue.entries = [] →
    Vacates s (list.foldl (fun t c => t.releaseGrant c k) s) := by
  induction list with
  | nil => exact fun _ => .refl _
  | cons c rest ih =>
    intro s empty
    have first := vacates_releaseGrant empty c k
    exact first.trans (ih (first.queue ▸ empty))

theorem firm_releases (k : ReleaseCause) (list : List ChanId) : ∀ {s : State}, s.queue.entries = [] → Occupied s →
    ∀ c ∈ list, firm (list.foldl (fun t c => t.releaseGrant c k) s) c = false := by
  induction list with
  | nil => exact fun _ _ _ m => absurd m List.not_mem_nil
  | cons d rest ih =>
    intro s empty occ c m
    have first := vacates_releaseGrant empty d k
    have empty' : (s.releaseGrant d k).queue.entries = [] := first.queue ▸ empty
    rcases List.mem_cons.1 m with rfl | m
    · rw [← Bool.not_eq_true]
      intro f
      have := (vacates_releases k rest empty').firm_of_firm f
      simp [firm_releaseGrant empty occ] at this
    · exact ih empty' (first.occupied occ) c m

theorem vacates_releaseAll {s : State} (empty : s.queue.entries = []) (k : ReleaseCause) :
    Vacates s (s.releaseAll (fun _ => true) k) := by
  rw [releaseAll_every]
  exact vacates_releases k _ empty

/-- Every grant released, none stands (R34). -/
theorem firm_releaseAll {s : State} (empty : s.queue.entries = []) (slots : SlotLaw s) (admission : AdmissionLaw s)
    (k : ReleaseCause) (c : ChanId) : firm (s.releaseAll (fun _ => true) k) c = false := by
  have occ : Occupied s := fun d some rest => by simp [(slots d).2 rest] at some
  rw [← Bool.not_eq_true]
  intro f
  have held := (vacates_releaseAll empty k).firm_of_firm f
  simp only [firm, Bool.and_eq_true] at held
  rw [releaseAll_every, firm_releases k _ empty occ c ((admission.2 c).2 held.1)] at f
  cases f

/-! ### The recomputation with nothing waiting -/

theorem vacates_shed (n : Nat) : ∀ {s : State}, s.queue.entries = [] → Vacates s (s.shed n) := by
  induction n with
  | zero => exact fun _ => .refl _
  | succ n ih =>
    intro s empty
    cases chosen : s.shedChoice s.grants.admission with
    | none =>
      rw [shed_of_none chosen]
      exact .refl s
    | some cp =>
      by_cases within : s.held ≤ s.budget.total
      · rw [shed_of_held_le within]
        exact .refl s
      · have first := vacates_releaseGrant empty cp.1 .shed
        rw [shed_succ (Nat.lt_of_not_le within) chosen]
        exact first.trans (ih (first.queue ▸ empty))

theorem vacates_postBudget (s : State) (k : BudgetCause) : Vacates s (s.postBudget k) := by
  unfold State.postBudget
  rw [State.broadcast_eq]
  exact .of_same rfl rfl rfl rfl

theorem vacates_recompute {s : State} (empty : s.queue.entries = []) (k : BudgetCause) : Vacates s (s.recompute k) := by
  have level : Vacates s (s.withTotal s.selectedLevel) := .of_same rfl rfl rfl rfl
  rcases Nat.lt_trichotomy s.selectedLevel s.budget.total with lt | eq | gt
  · rw [recompute_of_lt rfl lt]
    exact (level.trans (vacates_shed _ empty)).trans (vacates_postBudget ..)
  · rw [recompute_of_eq rfl eq]
    exact level
  · have told := level.trans (vacates_postBudget (s.withTotal s.selectedLevel) k)
    rw [recompute_of_gt rfl gt, scanQueue_of_empty (by rw [told.queue, empty])]
    exact told

/-! ### The claim -/

/-- An emptied queue has no blocking head, where none blocked an empty one (R54). -/
theorem headBlocking_setEntries_nil {s : State} (quiet : s.queue.entries = [] → s.queue.headBlocking = false) :
    (s.setEntries []).queue.headBlocking = false := by
  cases entries : s.queue.entries <;> simp_all [State.setEntries, State.judgeHead, WaitQueue.judge]

theorem headBlocking_of_blockingLaw {s : State} (law : BlockingLaw s) (empty : s.queue.entries = []) :
    s.queue.headBlocking = false := by
  simp only [BlockingLaw, empty] at law
  exact law.1

/-- RESET_PART with the removal of the entries as postings and an emptied queue (R64, R165). -/
theorem adopt_resetPart {s r : State} {straps : BitVec 2} (read : r = s.readStraps straps) :
    s.adopt straps .resetPart = State.zeroTallies (State.restartRings (State.recompute .config
      { State.releaseAll (fun _ => true) .reset
          (State.setEntries [] (r.postFailed .reset (r.queue.entries.filter fun _ => true))) with
        config := Configuration.default straps })) := by
  have row : s.adopt straps .resetPart = State.zeroTallies (State.restartRings (State.recompute .config
      { State.releaseAll (fun _ => true) .reset (r.failEntries (fun _ => true) .reset) with
        config := Configuration.default straps })) := by rw [read]; rfl
  have emptied : (r.queue.entries.filter fun _ => !true) = [] := by simp
  rw [row, failEntries_eq, emptied]

/-- The defaults' rings hold eight samples (R102, R143). -/
theorem restart_default (m : Measurement) (straps : BitVec 2) :
    let after := m.restart (Configuration.default straps).averaging
    after.ring = List.replicate 8 0 ∧ after.average = 0 ∧ after.peak = 0 := ⟨rfl, rfl, rfl⟩

/-- A queue emptied after postings: no other record of the state moves. -/
theorem emptied_eq {r w : State} {p : WaitEntry → Bool} {k : FailCause} (failed : Failed p k r w) :
    w.setEntries [] = { r with outboxes := (w.setEntries []).outboxes, queue := (w.setEntries []).queue } := by
  obtain ⟨posted, -⟩ := failed
  rw [State.setEntries_eq]
  dsimp only
  generalize (w.setEntries []).queue = q
  rw [posted]

/-- Every grant released and the total recomputed: those left are DISCHARGING (R34, R165). -/
theorem discharging_of_released {x y z : State} (empty : x.queue.entries = []) (slots : SlotLaw x)
    (admission : AdmissionLaw x) (released : y = x.releaseAll (fun _ => true) .reset) (later : Vacates y z) {c : ChanId}
    {g : Grant} (slot : z.slot c = some g) : (z.chan c).state = .discharging := by
  obtain ⟨k, slotY, -⟩ := later.held c g slot
  have fallen : firm y c = false := released ▸ firm_releaseAll empty slots admission .reset c
  have gone : (y.chan c).state = .discharging := by
    by_contra stands
    simp [firm_iff.2 ⟨k, slotY, stands⟩] at fallen
  exact (later.chan c (by simp [slot])).elim (fun same => same ▸ gone) id

/-- Settles O51: the queue emptied, what follows takes grants away and writes the records of the steps. -/
theorem adoptedResetPartReturnsTheDefaults : Obligations.AdoptedResetPartReturnsTheDefaults := by
  intro s t straps t_eq
  let r := s.readStraps straps
  obtain ⟨w, w_eq⟩ : ∃ w, w = r.postFailed .reset (r.queue.entries.filter fun _ => true) := ⟨_, rfl⟩
  obtain ⟨x, x_eq⟩ : ∃ x, x = w.setEntries [] := ⟨_, rfl⟩
  obtain ⟨y, y_eq⟩ : ∃ y, y = x.releaseAll (fun _ => true) .reset := ⟨_, rfl⟩
  let d : State := { y with config := Configuration.default straps }
  obtain ⟨z, z_eq⟩ : ∃ z, z = d.recompute .config := ⟨_, rfl⟩
  have failed : Failed (fun _ => true) .reset r w := w_eq ▸ failed_postFailed ..
  have steps : t = z.restartRings.zeroTallies := by
    rw [t_eq, adopt_resetPart (r := r) rfl, ← w_eq, ← x_eq, ← y_eq, z_eq]
  -- the state with the queue emptied, against the start
  have empty : x.queue.entries = [] := by rw [x_eq, State.setEntries_entries]
  have removed : x = { s with
      pins := { s.pins with straps := straps }, outboxes := x.outboxes, queue := x.queue } := x_eq ▸ emptied_eq failed
  have queueW : w.queue = s.queue := (congrArg State.queue failed.1 :)
  have session (h : HostId) : x.session h = s.session h := by simp only [State.session]; rw [removed]
  have slot (c : ChanId) : x.slot c = s.slot c := by simp only [State.slot]; rw [removed]
  have chan (c : ChanId) : x.chan c = s.chan c := by simp only [State.chan]; rw [removed]
  -- the releases and the recomputation, against the emptied queue
  have released : Vacates x y := y_eq ▸ vacates_releaseAll empty .reset
  have quietY : Quiet x y := y_eq ▸ (acts_releaseAll x (fun _ => true) .reset).quiet
  have levels : Vacates y z := by
    have configured : Vacates y d := .of_same rfl rfl rfl rfl
    exact z_eq ▸ configured.trans (vacates_recompute (by rw [configured.queue, released.queue, empty]) .config)
  have quietZ : Quiet (d.withTotal d.selectedLevel) z := z_eq ▸ quiet_recompute d .config
  have course := released.trans levels
  -- the last two steps
  have form : t = { z with meas := z.restartRings.meas, tallies := Table.const 4 Tally.zero } := by
    rw [steps, State.restartRings_eq]
    rfl
  have sessionsT : t.sessions = z.sessions := by rw [form]
  have queueT : t.queue = x.queue := (by rw [form] : t.queue = z.queue).trans course.queue
  have slotT (c : ChanId) : t.slot c = z.slot c := by simp only [State.slot]; rw [form]
  have chanT (c : ChanId) : t.chan c = z.chan c := by simp only [State.chan]; rw [form]
  refine ⟨⟨w, failed, ?parts⟩, ?config, fun c => ?measure, fun h => ?tally, ?total, ?number, ?arrival, ?proposal, ?ports,
    ?taken, ?hold, ?pins, fun h att => ?session, fun law => ?sessions, ?entries, fun law => ?blocking, fun law => ?table⟩
  case parts => rw [steps, z_eq, ← x_eq, ← y_eq]
  case config => rw [form]; exact quietZ.config
  case measure =>
    have measure : t.measure c = (z.measure c).restart (Configuration.default straps).averaging := by
      have config : z.config = Configuration.default straps := quietZ.config
      rw [← config, ← State.restartRings_measure]
      simp only [State.measure]
      rw [form]
    rw [measure]
    exact restart_default ..
  case tally =>
    simp only [State.tally]
    rw [form]
    exact Table.read_const ..
  case total =>
    have levelZ : z.budget.total =
        if y.budget.derateTaken then Config.deratedLevel straps else Config.normalLevel straps := quietZ.total
    rw [form, levelZ, quietY.derateTaken, removed]
  case number =>
    rw [form, course.nextNumber, removed]
  case arrival => rw [queueT, x_eq, State.setEntries_arrival, queueW]
  case proposal =>
    rw [form, quietZ.nextProposal]
    exact quietY.nextProposal.trans (by rw [removed])
  case ports =>
    rw [form, quietZ.ports]
    exact quietY.ports.trans (by rw [removed])
  case taken =>
    rw [form, quietZ.derateTaken]
    exact quietY.derateTaken.trans (by rw [removed])
  case hold =>
    rw [form, quietZ.derateHold]
    exact quietY.derateHold.trans (by rw [removed])
  case pins =>
    rw [form, quietZ.pins]
    exact quietY.pins.trans (by rw [removed])
  case session =>
    have sessionT : t.session h = z.session h := by simp only [State.session, sessionsT]
    rw [sessionT, course.session h (by rwa [State.attached, session]), session]
  case sessions =>
    obtain ⟨-, owners, -⟩ := law
    have owned : Owned x := by
      intro c g held state
      rw [slot] at held
      rw [chan] at state
      rw [State.attached, session]
      exact attached_of_ownerPresent (owners c g held state)
    rw [sessionsT, course.sessions owned, removed]
  case entries => rw [queueT, empty]
  case blocking =>
    rw [queueT, x_eq]
    refine headBlocking_setEntries_nil ?_
    rw [queueW]
    exact headBlocking_of_blockingLaw law
  case table =>
    obtain ⟨slots, ⟨nodup, members⟩, -⟩ := law
    have slotsX : SlotLaw x := fun c => by rw [slot, chan]; exact slots c
    have admissionX : AdmissionLaw x := by
      have list : x.grants.admission = s.grants.admission := by rw [removed]
      exact ⟨list ▸ nodup, fun c => by rw [list, slot]; exact members c⟩
    refine ⟨fun c g held => ?_, fun c rest => ?_⟩
    · rw [slotT] at held
      obtain ⟨k, heldX, number, -⟩ := course.held c g held
      exact ⟨chanT c ▸ discharging_of_released empty slotsX admissionX y_eq levels held, k, slot c ▸ heldX, number⟩
    · rw [chanT, course.atRest c (by rwa [chan]), chan]

end Sys2Proof
end

section
/-! The laws of the slots, of the admission list and of the entries, and the numbering of the grants, through every step (R20,
R21, R22, R39): each is kept by every act, and a step is made of acts and of changes that the laws do not see. -/

namespace Sys2Proof

open Machine

/-! ### The slots, the admission list and the entries -/

/-- What R20, R22 and R39 see of a state is as it was: which slots hold a grant, which channels are vacant, the admission list
and the entries. -/
structure SameTable (s t : State) : Prop where
  isSome : ∀ c, (t.slot c).isSome = (s.slot c).isSome
  vacant : ∀ c, (t.chan c).state = .idle ∨ (t.chan c).state = .faulted ↔
    (s.chan c).state = .idle ∨ (s.chan c).state = .faulted
  admission : t.grants.admission = s.grants.admission
  entries : ∀ e ∈ t.queue.entries, e ∈ s.queue.entries

theorem SameTable.tableLaw {s t : State} (same : SameTable s t) (law : TableLaw s) : TableLaw t := by
  obtain ⟨slots, ⟨nodup, members⟩, items⟩ := law
  refine ⟨fun c => ?_, ⟨?_, fun c => ?_⟩, fun e m => items e (same.entries e m)⟩
  · rw [same.vacant, ← slots, ← Option.not_isSome_iff_eq_none, same.isSome, Option.not_isSome_iff_eq_none]
  · rw [same.admission]
    exact nodup
  · rw [same.admission, same.isSome]
    exact members c

theorem SameLedger.sameTable {s t : State} (same : SameLedger s t) : SameTable s t where
  isSome c := by rw [same.slot]
  vacant := same.vacant
  admission := by rw [same.grants]
  entries := same.entries

theorem tableLaw_createGrant {s : State} {e : WaitEntry} {i : Item} (law : TableLaw s) (free : Free s i.channel) :
    TableLaw (s.createGrant e i) := by
  obtain ⟨slots, ⟨nodup, members⟩, items⟩ := law
  refine ⟨fun c => ?_, ⟨?_, fun c => ?_⟩, fun x m => items x (by simpa using m)⟩
  · have := slots c
    by_cases h : c = i.channel <;> simp_all
  · have new : i.channel ∉ s.grants.admission := fun m => by simp [members, free.2] at m
    simpa [List.nodup_append, nodup] using fun a m (h : a = i.channel) => new (h ▸ m)
  · by_cases h : c = i.channel <;> simp [members, h]

/-- The grants of items on channels that are free and distinct are entered in slots and list (R23). -/
theorem tableLaw_createGrants {e : WaitEntry} (is : List Item) : ∀ {s : State}, TableLaw s →
    (∀ i ∈ is, Free s i.channel) → (is.map Item.channel).Nodup → TableLaw (s.createGrants e is).1 := by
  induction is with
  | nil => exact fun law _ _ => law
  | cons i rest ih =>
    intro s law free nodup
    obtain ⟨new, nodup⟩ := List.nodup_cons.1 nodup
    refine ih (tableLaw_createGrant law (free i List.mem_cons_self)) (fun j m => ?_) nodup
    exact free_createGrant (free j (List.mem_cons_of_mem _ m)) fun h => new (h ▸ List.mem_map_of_mem m)

theorem tableLaw_removeGrant {s : State} {c : ChanId} {g : Grant} {after : ChanState} (law : TableLaw s)
    (rest : after = .idle ∨ after = .faulted) : TableLaw (s.removeGrant c g after) := by
  obtain ⟨slots, ⟨nodup, members⟩, items⟩ := law
  refine ⟨fun d => ?_, ⟨?_, fun d => ?_⟩, fun x m => items x (by simpa using m)⟩
  · rw [removeGrant_slot, removeGrant_chan]
    split
    · simpa [Channel.rest] using rest
    · exact slots d
  · simpa using nodup.erase c
  · by_cases h : d = c <;> simp [removeGrant_slot, nodup.mem_erase_iff, h, members]

theorem sameTable_markCause (s : State) (c : ChanId) (k : ReleaseCause) : SameTable s (s.markCause c k) where
  isSome d := by rw [State.markCause_slot]; split <;> simp
  vacant _ := Iff.rfl
  admission := rfl
  entries _ m := m

theorem sameTable_setAmount (s : State) (c : ChanId) (g : Grant) (amount : Nat) : SameTable s (s.setAmount c g amount) where
  isSome d := by rw [setAmount_slot]; split <;> simp
  vacant _ := Iff.rfl
  admission := rfl
  entries _ m := m

theorem sameTable_startDischarge {s : State} {c : ChanId} {g : Grant}
    (state : (s.chan c).state = .ramping ∨ (s.chan c).state = .on) : SameTable s (s.startDischarge c g) where
  isSome _ := rfl
  vacant d := by
    rw [startDischarge_chan]
    split
    · next h => subst h; rcases state with state | state <;> simp [state]
    · rfl
  admission := rfl
  entries _ m := m

/-- Every act keeps the laws of the table (R20, R22, R39). -/
theorem tableLaw_act {s t : State} (a : Act s t) (law : TableLaw s) : TableLaw t := by
  cases a with
  | post h n => exact (sameLedger_post ..).sameTable.tableLaw law
  | leave es sub => exact (sameLedger_setEntries fun e m => sub.subset m).sameTable.tableLaw law
  | admitEntry e mem adm =>
    have created := tableLaw_createGrants (e := e) e.items law (free_of_admissible adm) (law.2.2 e mem)
    exact (sameLedger_setEntries fun x m => List.mem_of_mem_erase m).sameTable.tableLaw created
  | finish c g after _ rest => exact tableLaw_removeGrant law rest
  | mark c k => exact (sameTable_markCause s c k).tableLaw law
  | discharge c g k _ _ state => exact (sameTable_startDischarge state).tableLaw law
  | fault c idle => exact (sameLedger_fault idle).sameTable.tableLaw law
  | close h => exact (sameLedger_endClosing s h).sameTable.tableLaw law

theorem tableLaw_place {s : State} {e : WaitEntry} (distinct : (e.items.map Item.channel).Nodup) (law : TableLaw s) :
    TableLaw (s.place e) := by
  obtain ⟨slots, admission, items⟩ := law
  have items' : ItemsLaw (s.place e) := fun x m => by
    rw [State.place, State.setEntries_entries, mem_placeEntry] at m
    rcases m with rfl | m
    · exact distinct
    · exact items x m
  have rest : s.place e = { s with queue := (s.place e).queue } := State.setEntries_eq ..
  rw [rest] at items' ⊢
  exact ⟨slots, admission, items'⟩

/-! ### Grant numbers -/

/-- The counter is as it was, and every grant had its number before. -/
structure SameNumbers (s t : State) : Prop where
  nextNumber : t.grants.nextNumber = s.grants.nextNumber
  held : ∀ c g, t.slot c = some g → ∃ k, s.slot c = some k ∧ k.number = g.number

theorem SameNumbers.numberLaw {s t : State} (same : SameNumbers s t) (law : NumberLaw s) : NumberLaw t := by
  obtain ⟨counter, range, distinct⟩ := law
  refine ⟨same.nextNumber ▸ counter, fun c g slot => ?_, fun c d g k slot slot' number => ?_⟩
  · obtain ⟨j, slotS, number⟩ := same.held c g slot
    exact number ▸ range c j slotS
  · obtain ⟨j, slotS, numberS⟩ := same.held c g slot
    obtain ⟨j', slotS', numberS'⟩ := same.held d k slot'
    exact distinct c d j j' slotS slotS' (by rw [numberS, numberS', number])

theorem SameNumbers.of_slots {s t : State} (nextNumber : t.grants.nextNumber = s.grants.nextNumber)
    (slot : ∀ c, t.slot c = s.slot c) : SameNumbers s t where
  nextNumber := nextNumber
  held c g held := ⟨g, slot c ▸ held, rfl⟩

theorem SameNumbers.of_grants {s t : State} (grants : t.grants = s.grants) : SameNumbers s t :=
  .of_slots (by rw [grants]) fun c => by simp [State.slot, grants]

theorem sameNumbers_removeGrant (s : State) (c : ChanId) (g : Grant) (after : ChanState) :
    SameNumbers s (s.removeGrant c g after) where
  nextNumber := by rw [removeGrant_eq]
  held d k held := by
    rw [removeGrant_slot] at held
    split at held
    · cases held
    · exact ⟨k, held, rfl⟩

/-- A grant rewritten in its slot under its number. -/
theorem sameNumbers_withSlot (s : State) (c : ChanId) {f : Grant → Grant} (number : ∀ g, (f g).number = g.number) :
    SameNumbers s (s.withSlot c (Option.map f)) where
  nextNumber := rfl
  held d g held := by
    rw [State.withSlot_slot] at held
    split at held
    · obtain ⟨k, slot, rfl⟩ := Option.map_eq_some_iff.1 held
      exact ⟨k, slot, (number k).symm⟩
    · exact ⟨g, held, rfl⟩

theorem sameNumbers_setAmount (s : State) (c : ChanId) (g : Grant) (amount : Nat) :
    SameNumbers s (s.setAmount c g amount) :=
  ⟨rfl, (sameNumbers_withSlot s c (f := fun r => { r with amount := amount }) fun _ => rfl).held⟩

/-! ### Issuing -/

/-- The counter carried on j times: as it was, past 65535 to 1, or at 1 at once from a counter out of range (R21). -/
theorem iterate_nextGrantNumber (n : Nat) {j : Nat} (small : j ≤ 65535) :
    (j = 0 ∨ n + j ≤ 65535) ∧ nextGrantNumber^[j] n = n + j ∨
      n ≤ 65535 ∧ 65535 < n + j ∧ nextGrantNumber^[j] n + 65535 = n + j ∨
      65535 < n ∧ 1 ≤ j ∧ nextGrantNumber^[j] n = j := by
  induction j with
  | zero => exact .inl ⟨.inl rfl, rfl⟩
  | succ j ih =>
    have before := ih (Nat.le_of_succ_le small)
    rw [Function.iterate_succ_apply']
    generalize nextGrantNumber^[j] n = m at before ⊢
    have next : nextGrantNumber m = if m < 65535 then m + 1 else 1 := rfl
    rw [next]
    split <;> omega

/-- The first nine numbers from any counter on are distinct. -/
theorem iterate_nextGrantNumber_inj {n i j : Nat} (hi : i ≤ 8) (hj : j ≤ 8)
    (same : nextGrantNumber^[i] n = nextGrantNumber^[j] n) : i = j := by
  have first := iterate_nextGrantNumber n (j := i) (by omega)
  have second := iterate_nextGrantNumber n (j := j) (by omega)
  omega

/-- The number issued is reached over held ones, and is not held unless the walk ran out. -/
theorem issueNumber_spec (held : List Nat) (fuel n : Nat) : ∃ k ≤ fuel,
    issueNumber fuel held n = nextGrantNumber^[k] n ∧ (∀ j < k, nextGrantNumber^[j] n ∈ held) ∧
      (nextGrantNumber^[k] n ∈ held → k = fuel) := by
  induction fuel generalizing n with
  | zero => exact ⟨0, Nat.le_refl _, rfl, fun _ h => absurd h (Nat.not_lt_zero _), fun _ => rfl⟩
  | succ fuel ih =>
    rw [issueNumber]
    split
    · next first =>
      obtain ⟨k, le, issued, passed, out⟩ := ih (nextGrantNumber n)
      refine ⟨k + 1, Nat.succ_le_succ le, issued, fun j lt => ?_, fun h => congrArg _ (out h)⟩
      cases j with
      | zero => simpa using first
      | succ j => exact passed j (Nat.lt_of_succ_lt_succ lt)
    · next first =>
      refine ⟨0, Nat.zero_le _, rfl, fun _ h => absurd h (Nat.not_lt_zero _), fun h => absurd ?_ first⟩
      simpa using h

theorem mem_heldNumbers {s : State} {n : Nat} : n ∈ s.heldNumbers ↔ ∃ c g, s.slot c = some g ∧ g.number = n := by
  simp [State.heldNumbers, mem_allChannels]

/-- The number issued is the first from the counter on that no grant holds: of nine distinct numbers, at most eight are
held (R21). -/
theorem issued_spec (s : State) : ∃ skipped, s.issued = nextGrantNumber^[skipped] s.grants.nextNumber ∧
    (∀ j < skipped, nextGrantNumber^[j] s.grants.nextNumber ∈ s.heldNumbers) ∧ s.issued ∉ s.heldNumbers := by
  obtain ⟨k, le, issued, passed, out⟩ := issueNumber_spec s.heldNumbers 8 s.grants.nextNumber
  refine ⟨k, issued, passed, fun held => ?_⟩
  have ran : k = 8 := out (issued ▸ held)
  subst ran
  have few : s.heldNumbers.length ≤ 8 := List.length_filterMap_le ..
  let numbers := (List.range 9).map fun j => nextGrantNumber^[j] s.grants.nextNumber
  have distinct : numbers.Nodup := by
    refine List.Nodup.map_on (fun i hi j hj => iterate_nextGrantNumber_inj ?_ ?_) List.nodup_range
    · exact Nat.lt_succ_iff.1 (List.mem_range.1 hi)
    · exact Nat.lt_succ_iff.1 (List.mem_range.1 hj)
  have within : numbers ⊆ s.heldNumbers := by
    intro n m
    obtain ⟨j, hj, rfl⟩ := List.mem_map.1 m
    rcases Nat.lt_succ_iff_lt_or_eq.1 (List.mem_range.1 hj) with lt | rfl
    · exact passed j lt
    · rw [← issued]
      exact held
  have many := (distinct.subperm within).length_le
  simp [numbers] at many
  omega

theorem nextGrantNumber_range (n : Nat) :
    1 ≤ nextGrantNumber n ∧ nextGrantNumber n ≤ Config.grantNumberMax := by
  rw [nextGrantNumber]
  split
  · next below => exact ⟨Nat.succ_pos n, below⟩
  · decide

theorem iterate_nextGrantNumber_range {n : Nat} (range : 1 ≤ n ∧ n ≤ Config.grantNumberMax) (j : Nat) :
    1 ≤ nextGrantNumber^[j] n ∧ nextGrantNumber^[j] n ≤ Config.grantNumberMax := by
  cases j with
  | zero => exact range
  | succ j =>
    rw [Function.iterate_succ_apply']
    exact nextGrantNumber_range _

/-- A grant created under the number issued keeps the numbers in range and apart (R21). -/
theorem numberLaw_createGrant {s : State} (e : WaitEntry) (i : Item) (law : NumberLaw s) : NumberLaw (s.createGrant e i) := by
  obtain ⟨counter, range, distinct⟩ := law
  obtain ⟨skipped, issued, -, fresh⟩ := issued_spec s
  have apart {c : ChanId} {g : Grant} (slot : s.slot c = some g) : g.number ≠ s.issued := fun same =>
    fresh (mem_heldNumbers.2 ⟨c, g, slot, same⟩)
  have held (c : ChanId) (g : Grant) (slot : (s.createGrant e i).slot c = some g) :
      c = i.channel ∧ g.number = s.issued ∨ s.slot c = some g := by
    rw [State.createGrant_slot] at slot
    split at slot
    · next here =>
      cases slot
      exact .inl ⟨here, rfl⟩
    · exact .inr slot
  refine ⟨?_, fun c g slot => ?_, fun c d g k slot slot' same => ?_⟩
  · rw [State.createGrant_nextNumber]
    exact nextGrantNumber_range _
  · rcases held c g slot with ⟨-, number⟩ | old
    · rw [number, issued]
      exact iterate_nextGrantNumber_range counter _
    · exact range c g old
  · rcases held c g slot with ⟨here, number⟩ | old <;> rcases held d k slot' with ⟨here', number'⟩ | old'
    · exact here.trans here'.symm
    · exact absurd (same.symm.trans number) (apart old')
    · exact absurd (same.trans number') (apart old)
    · exact distinct c d g k old old' same

theorem numberLaw_createGrants (e : WaitEntry) (is : List Item) : ∀ {s : State}, NumberLaw s →
    NumberLaw (s.createGrants e is).1 := by
  induction is with
  | nil => exact id
  | cons i rest ih => exact fun law => ih (numberLaw_createGrant e i law)

/-- Every act keeps the numbering of the grants (R21). -/
theorem numberLaw_act {s t : State} (a : Act s t) (law : NumberLaw s) : NumberLaw t := by
  have of_grants {u v : State} (grants : v.grants = u.grants) (law : NumberLaw u) : NumberLaw v :=
    (SameNumbers.of_grants grants).numberLaw law
  cases a with
  | post h n => exact of_grants (by rw [State.post_eq]) law
  | leave es sub => exact of_grants (by rw [State.setEntries_eq]) law
  | admitEntry e mem adm =>
    exact of_grants (by rw [State.admitEntry, State.takeOut, State.setEntries_eq]) (numberLaw_createGrants e e.items law)
  | finish c g after => exact (sameNumbers_removeGrant s c g after).numberLaw law
  | mark c k => exact (sameNumbers_withSlot s c (f := fun g => { g with cause := some k }) fun _ => rfl).numberLaw law
  | close h => exact of_grants (by rw [endClosing_eq]) law
  | discharge | fault => exact of_grants rfl law

/-! ### Every step -/

/-- A law of slots, channels, list, counter and entries that the acts, the placing of an entry, a resize and the turns of a
channel keep is kept by every step. -/
theorem kept_of_acts {law : State → Prop}
    (congr : ∀ {s t : State}, law s → t.grants = s.grants → t.channels = s.channels → t.queue.entries = s.queue.entries →
      law t)
    (act : ∀ {s t : State}, Act s t → law s → law t)
    (place : ∀ {s : State} {e : WaitEntry}, (e.items.map Item.channel).Nodup → law s → law (s.place e))
    (resize : ∀ {s : State} {c : ChanId} {g : Grant} {amount : Nat}, law s → law (s.setAmount c g amount))
    (turn : ∀ {s : State} {c : ChanId} {ch : Channel}, Turn s.now (s.settings c) (s.chan c) ch → law s →
      law (s.withChannel c fun _ => ch))
    (reset : law State.reset) : Kept law := by
  have move {s t : State} (m : Move s t) (l : law s) : law t := by
    cases m with
    | act a => exact act a l
    | place e _ distinct => exact place distinct l
    | resize => exact resize l
    | turn c ch t => exact turn t l
    | _ => exact congr l rfl rfl rfl
  have recomputed (s : State) (k : BudgetCause) (l : law s) : law (s.recompute k) :=
    (acts_recompute s k).keeps (fun _ _ l a => act a l) (congr l rfl rfl rfl)
  have effect {ch : Change} {s t : State} (l : law s) (e : Effect ch s t) : law t := by
    cases e with
    | move m => exact move m l
    | level k => exact recomputed _ _ (congr l rfl rfl rfl)
    | straps | config => exact congr l rfl rfl rfl
  have effects {ch : Change} {s t : State} (es : Effects ch s t) (l : law s) : law t := by
    induction es with
    | refl => exact l
    | tail _ e ih => exact effect ih e
  refine kept_of_deeds (fun s p l => congr l rfl rfl rfl) (fun i s t kind l run => ?_) fun s t l d => ?_
  · rcases resets_cases kind run with rfl | ⟨straps, ports, rfl⟩ | ⟨-, straps, rfl⟩
    · exact l
    · exact congr reset rfl rfl rfl
    · exact congr reset rfl rfl rfl
  · cases d with
    | move m => exact move m l
    | round c => rw [State.countRound_eq]; exact congr l rfl rfl rfl
    | derate e _ k => exact recomputed _ k (congr l rfl rfl rfl)
    | depart h k _ m => exact congr (m.keeps (fun _ _ l a => move a l) (congr l rfl rfl rfl)) rfl rfl rfl
    | adopt ch _ es => exact effects es (congr l rfl rfl rfl)
    | _ => exact congr l rfl rfl rfl

/-- Settles O12: both laws are kept by every act, and what else a step does changes no slot, channel or number they see. -/
theorem grantTableLawsKept : Obligations.GrantTableLawsKept := by
  constructor
  · refine kept_of_acts (fun {s t} law grants channels entries => ?_) tableLaw_act tableLaw_place
      (fun law => (sameTable_setAmount ..).tableLaw law) (fun turn law => (sameLedger_turn turn).sameTable.tableLaw law)
      ledgerLaw_reset.1
    have same : SameTable s t := {
      isSome := fun c => by simp [State.slot, grants]
      vacant := fun c => by simp [State.chan, channels]
      admission := by rw [grants]
      entries := by simp [entries] }
    exact same.tableLaw law
  · obtain ⟨-, -, -, -, numbers, -⟩ := resetStateIsPowerOnsAndMeetsEveryLaw
    exact kept_of_acts (fun law grants _ _ => (SameNumbers.of_grants grants).numberLaw law) numberLaw_act
      (fun _ law => (SameNumbers.of_grants (by rw [State.place, State.setEntries_eq])).numberLaw law)
      (fun law => (sameNumbers_setAmount ..).numberLaw law) (fun _ law => (SameNumbers.of_grants rfl).numberLaw law) numbers

end Sys2Proof
end

section
/-! RESIZE and the refusals of RELEASE (R26 to R29): the body read, the checks in their order, and the three outcomes of a
RESIZE that passes them. -/

namespace Sys2Proof

open Machine

/-! ### The rows and their bodies -/

theorem exec_resize {s : State} {h : HostId} {f : Frame} (n : Served .resize s h f) :
    exec .resize s = .next (handleResize h f (taken s h)) := congrArg _ (taking_served n handleResize)

theorem exec_releaseRow {s : State} {h : HostId} {f : Frame} (n : Served .release s h f) :
    exec .release s = .next (handleRelease h f (taken s h)) := congrArg _ (taking_served n handleRelease)

theorem channelOf_of_names {b : Byte} {c : ChanId} (names : b.toNat = c.val) : channelOf b.toNat = some c := by
  simp [channelOf, names]

theorem channelOf_of_high {b : Byte} (high : 8 ≤ b.toNat) : channelOf b.toNat = none := dif_neg (Nat.not_lt.2 high)

section Bodies
variable {s : State} {h : HostId} {f : Frame} {b hi lo : Byte} {c : ChanId}

theorem handleResize_of_length (length : f.body.length ≠ 3) : handleResize h f s = s.refuse h f .badValue := by
  unfold handleResize
  split
  · next body => simp [body] at length
  · rfl

theorem handleResize_of_high (body : f.body = [b, hi, lo]) (high : 8 ≤ b.toNat) :
    handleResize h f s = s.refuse h f .badChannel := by
  rw [handleResize, body]
  dsimp only
  rw [channelOf_of_high high]

theorem handleResize_of_names (body : f.body = [b, hi, lo]) (names : b.toNat = c.val) :
    handleResize h f s = s.resizeChecked h f c (word2 hi lo) := by
  rw [handleResize, body]
  dsimp only
  rw [channelOf_of_names names]

theorem handleRelease_of_length (length : f.body.length ≠ 1) : handleRelease h f s = s.refuse h f .badValue := by
  have field : readChannelField f.body = .error .badValue := by
    unfold readChannelField
    split
    · next body => simp [body] at length
    · rfl
  rw [handleRelease, field]

theorem handleRelease_of_high (body : f.body = [b]) (high : 8 ≤ b.toNat) :
    handleRelease h f s = s.refuse h f .badChannel := by
  have field : readChannelField f.body = .error .badChannel := by simp [readChannelField, body, channelOf_of_high high]
  rw [handleRelease, field]

theorem handleRelease_of_names (body : f.body = [b]) (names : b.toNat = c.val) :
    handleRelease h f s = s.releaseChecked h f c := by
  rw [handleRelease, body, readChannelField_eq names]

end Bodies

/-! ### The checks after the body -/

/-- The owner of a channel's grant is a host that holds one there. -/
theorem slot_of_owns {s : State} {h : HostId} {c : ChanId} (owns : s.owns h c = true) : ∃ g, s.slot c = some g := by
  cases slot : s.slot c with
  | none => simp [State.owns, slot] at owns
  | some g => exact ⟨g, rfl⟩

theorem owner_of_owns {s : State} {h : HostId} {c : ChanId} {g : Grant} (slot : s.slot c = some g)
    (owns : s.owns h c = true) : g.owner = h := by
  simp only [State.owns, slot, Bool.and_eq_true, beq_iff_eq] at owns
  exact owns.1

section Checks
variable {s : State} {h : HostId} {f : Frame} {c : ChanId} {g : Grant} {amount : Nat}

theorem resizeChecked_of_not_owns (other : s.owns h c = false) :
    s.resizeChecked h f c amount = s.refuse h f .notOwner := by
  unfold State.resizeChecked
  split
  · rfl
  · exact if_pos other

theorem releaseChecked_of_not_owns (other : s.owns h c = false) : s.releaseChecked h f c = s.refuse h f .notOwner := by
  unfold State.releaseChecked
  split
  · rfl
  · exact if_pos other

variable (owns : s.owns h c = true)
include owns

theorem resizeChecked_of_discharging (state : (s.chan c).state = .discharging) :
    s.resizeChecked h f c amount = s.refuse h f .badState := by
  obtain ⟨g, slot⟩ := slot_of_owns owns
  simp [State.resizeChecked, slot, owns, state]

theorem releaseChecked_of_discharging (state : (s.chan c).state = .discharging) :
    s.releaseChecked h f c = s.refuse h f .badState := by
  obtain ⟨g, slot⟩ := slot_of_owns owns
  simp [State.releaseChecked, slot, owns, state]

variable (state : (s.chan c).state ≠ .discharging)
include state

theorem resizeChecked_of_out_of_range (out : ¬ (1 ≤ amount ∧ amount ≤ Config.amountMax)) :
    s.resizeChecked h f c amount = s.refuse h f .badValue := by
  obtain ⟨g, slot⟩ := slot_of_owns owns
  simp only [State.resizeChecked, slot]
  rw [if_neg (by simp [owns]), if_neg state, if_pos out]

theorem resizeChecked_of_over (range : 1 ≤ amount ∧ amount ≤ Config.amountMax) (above : (s.settings c).ceiling < amount) :
    s.resizeChecked h f c amount = s.refuse h f .overCeiling := by
  obtain ⟨g, slot⟩ := slot_of_owns owns
  simp only [State.resizeChecked, slot]
  rw [if_neg (by simp [owns]), if_neg state, if_neg (not_not.2 range), if_pos above]

/-- A RESIZE that passes its checks compares the new amount with the present one (R26). -/
theorem resizeChecked_of_passed (slot : s.slot c = some g) (range : 1 ≤ amount ∧ amount ≤ Config.amountMax)
    (within : amount ≤ (s.settings c).ceiling) :
    s.resizeChecked h f c amount =
      if amount = g.amount then s.resized h f c g.number amount
      else if amount < g.amount then ((s.setAmount c g amount).scanQueue).resized h f c g.number amount
      else s.resizeUp h f c g amount := by
  simp only [State.resizeChecked, slot]
  rw [if_neg (by simp [owns]), if_neg state, if_neg (not_not.2 range), if_neg (Nat.not_lt.2 within)]

end Checks

/-- A RESIZE row whose grant may be resized, in the terms of the claims. -/
theorem exec_resize_of_passed {s : State} {h : HostId} {f : Frame} {b hi lo : Byte} {c : ChanId} {g : Grant} {amount : Nat}
    (n : Served .resize s h f) (body : f.body = [b, hi, lo]) (names : b.toNat = c.val)
    (asked : amount = hi.toNat * 256 + lo.toNat) (slot : s.slot c = some g) (owns : s.owns h c = true)
    (state : (s.chan c).state ≠ .discharging) (range : 1 ≤ amount ∧ amount ≤ 40000)
    (within : amount ≤ (s.settings c).ceiling) :
    exec .resize s = .next
      (if amount = g.amount then (taken s h).resized h f c g.number amount
      else if amount < g.amount then (((taken s h).setAmount c g amount).scanQueue).resized h f c g.number amount
      else (taken s h).resizeUp h f c g amount) := by
  have word : word2 hi lo = amount := asked.symm
  rw [exec_resize n, handleResize_of_names body names, word,
    resizeChecked_of_passed (s := taken s h) (by simpa using owns) state slot range within]

/-! ### The outcomes -/

/-- A grant's amount replaced, with the totals (R27, R28). -/
theorem setAmount_eq {s : State} {c : ChanId} {g : Grant} (slot : s.slot c = some g) (amount : Nat) :
    s.setAmount c g amount =
      { s with
        grants :=
          { s.grants with
            slots := s.grants.slots.upd c fun _ => some { g with amount := amount }
            hostReserved := s.grants.hostReserved.upd g.owner fun n => n + amount - g.amount }
        budget := { s.budget with reserved := s.budget.reserved + amount - g.amount } } := by
  have read : s.grants.slots.read c = some g := slot
  have slots : (s.grants.slots.upd c (Option.map fun r => { r with amount := amount })) =
      s.grants.slots.upd c fun _ => some { g with amount := amount } := Table.upd_congr _ _ (by simp [read])
  simp only [State.setAmount, State.withHostReserved, State.withReserved, State.withSlot, slots]

/-- The effective limit a RESIZE reports: the lower of the grant's amount and the ceiling (R24). -/
theorem effectiveLimit_of_slot {s : State} {c : ChanId} {g : Grant} (slot : s.slot c = some g) :
    s.effectiveLimit c = min g.amount (s.settings c).ceiling := by
  simp [State.effectiveLimit, slot]

/-- A scan leaves the limit of a grant as it was. -/
theorem effectiveLimit_scanQueue {s : State} {c : ChanId} {g : Grant} (slot : s.slot c = some g) :
    s.scanQueue.effectiveLimit c = min g.amount (s.settings c).ceiling := by
  rw [effectiveLimit_of_slot ((keepsTaken_scanQueue s).slot_of_some slot), State.settings, (acts_scanQueue s).quiet.config]
  rfl

theorem setAmount_slot_self {s : State} {c : ChanId} {g : Grant} (slot : s.slot c = some g) (amount : Nat) :
    (s.setAmount c g amount).slot c = some { g with amount := amount } := by
  simp [setAmount_slot, slot]

/-- Settles O14: past the checks, by the three branches of R28. -/
theorem resizeUpIsJudgedAgainstCapFreeAndHead : Obligations.ResizeUpIsJudgedAgainstCapFreeAndHead := by
  intro s h f b hi lo c g amount n body names asked slot owns state most within more
  have row : exec .resize s = .next ((taken s h).resizeUp h f c g amount) := by
    rw [exec_resize_of_passed n body names asked slot owns state ⟨Nat.one_le_of_lt more, most⟩ within,
      if_neg more.ne', if_neg more.le.not_gt]
  refine ⟨fun above => ?cap, fun fits short => ?budget, fun fits free calm => ?raised⟩
  case cap =>
    rw [row, State.resizeUp, if_pos (by simpa using above)]
    rfl
  case budget =>
    rw [row, State.resizeUp, if_neg (by simpa using fits), if_pos (by simpa using short)]
    rfl
  case raised =>
    have own := owner_of_owns slot owns
    have up (m : Nat) : m + amount - g.amount = m + (amount - g.amount) := Nat.add_sub_assoc more.le m
    have clear : ¬ ((taken s h).free < amount - g.amount ∨ (taken s h).queue.headBlocking = true) := by
      simp [calm, free]
    rw [row, State.resizeUp, if_neg (by simpa using fits), if_neg clear, State.resized,
      effectiveLimit_of_slot (setAmount_slot_self (s := taken s h) slot amount), setAmount_eq (s := taken s h) slot]
    simp only [up, own]
    rfl

/-- Settles O15: past the checks, an equal amount is answered, and a lower one is set and followed by a scan. -/
theorem resizeDownLowersAndScans : Obligations.ResizeDownLowersAndScans := by
  intro s h f b hi lo c g amount n body names asked slot owns state least most within
  have row := exec_resize_of_passed n body names asked slot owns state ⟨least, most⟩ within
  refine ⟨fun same => ?equal, fun less => ?down⟩
  case equal =>
    rw [row, if_pos same, State.resized, taken_effectiveLimit, effectiveLimit_of_slot slot, same]
    rfl
  case down =>
    have slotT : (taken s h).slot c = some g := slot
    refine ⟨_, ?_, rfl⟩
    rw [row, if_neg less.ne, if_pos less, State.resized, effectiveLimit_scanQueue (setAmount_slot_self slotT amount),
      setAmount_eq slotT, owner_of_owns slot owns]
    rfl

/-- Settles O16: each check of R26 and R29 with those before it passed. -/
theorem resizeAndReleaseRefusalsInOrder : Obligations.ResizeAndReleaseRefusalsInOrder := by
  refine ⟨fun s h f n => ?resize, fun s h f n => ?release⟩
  case resize =>
    have row := exec_resize n
    refine ⟨fun length => ?_, fun b hi lo body => ⟨fun high => ?_, fun c names => ?_⟩⟩
    · rw [row, handleResize_of_length length]
      rfl
    · rw [row, handleResize_of_high body high]
      rfl
    · rw [row, handleResize_of_names body names, ← taken_owns s h]
      refine ⟨fun other => ?owner, fun owns state => ?discharging, fun owns state => ⟨fun out => ?range,
        fun least most above => ?ceiling⟩⟩
      case owner => rw [resizeChecked_of_not_owns other]; rfl
      case discharging => rw [resizeChecked_of_discharging owns state]; rfl
      case range =>
        have out : ¬ (1 ≤ word2 hi lo ∧ word2 hi lo ≤ 40000) := by
          rw [word2]
          omega
        rw [resizeChecked_of_out_of_range owns state out]
        rfl
      case ceiling => rw [resizeChecked_of_over (s := taken s h) (amount := word2 hi lo) owns state ⟨least, most⟩ above]; rfl
  case release =>
    have row := exec_releaseRow n
    refine ⟨fun length => ?_, fun b body => ⟨fun high => ?_, fun c names => ?_⟩⟩
    · rw [row, handleRelease_of_length length]
      rfl
    · rw [row, handleRelease_of_high body high]
      rfl
    · rw [row, handleRelease_of_names body names, ← taken_owns s h]
      refine ⟨fun other => ?owner, fun owns state => ?discharging⟩
      case owner => rw [releaseChecked_of_not_owns other]; rfl
      case discharging => rw [releaseChecked_of_discharging owns state]; rfl

end Sys2Proof
end

section
/-! Admission: what the creation of an entry's grants makes of the state (R21 to R25), one step of the scan (R50, R51), and a
CLAIM that finds an empty queue (R45 to R47). -/

namespace Sys2Proof

open Machine

/-! ### The numbers of grants created in turn -/

/-- The counter before the k-th of some numbers issued from `start` on. -/
def counterAt (start : Nat) (nums : List Nat) (k : Nat) : Nat := (nums.take k).getLast?.elim start nextGrantNumber

/-- A number that a grant holds, or one of the first k issued. -/
def HeldAt (s : State) (nums : List Nat) (k n : Nat) : Prop := n ∈ s.heldNumbers ∨ n ∈ nums.take k

theorem numbered_iff {nums : List Nat} {s t : State} : Numbered nums s t ↔
    (∀ k (hn : k < nums.length), ¬ HeldAt s nums k nums[k] ∧
      ∃ skipped, nums[k] = nextGrantNumber^[skipped] (counterAt s.grants.nextNumber nums k) ∧
        ∀ j < skipped, HeldAt s nums k (nextGrantNumber^[j] (counterAt s.grants.nextNumber nums k))) ∧
      t.grants.nextNumber = counterAt s.grants.nextNumber nums nums.length := by
  simp only [HeldAt, mem_heldNumbers]
  rfl

@[simp] theorem counterAt_zero (start : Nat) (nums : List Nat) : counterAt start nums 0 = start := rfl

@[simp] theorem counterAt_cons_succ (start n : Nat) (nums : List Nat) (k : Nat) :
    counterAt start (n :: nums) (k + 1) = counterAt (nextGrantNumber n) nums k := by
  cases last : (nums.take k).getLast? <;> simp [counterAt, List.getLast?_cons, last]

@[simp] theorem heldAt_zero {s : State} {nums : List Nat} {n : Nat} : HeldAt s nums 0 n ↔ n ∈ s.heldNumbers := by
  simp [HeldAt]

/-- A grant created on an empty slot adds its number to those held. -/
theorem mem_heldNumbers_createGrant {s : State} {e : WaitEntry} {i : Item} (empty : s.slot i.channel = none) {n : Nat} :
    n ∈ (s.createGrant e i).heldNumbers ↔ n = s.issued ∨ n ∈ s.heldNumbers := by
  simp only [mem_heldNumbers, State.createGrant_slot]
  constructor
  · rintro ⟨c, g, slot, number⟩
    split at slot
    · cases slot
      exact .inl number.symm
    · exact .inr ⟨c, g, slot, number⟩
  · rintro (rfl | ⟨c, g, slot, number⟩)
    · exact ⟨i.channel, s.grantFor e i, if_pos rfl, rfl⟩
    · have other : c ≠ i.channel := fun here => by simp [here, empty] at slot
      exact ⟨c, g, (if_neg other).trans slot, number⟩

theorem heldAt_cons_succ {s : State} {e : WaitEntry} {i : Item} (empty : s.slot i.channel = none) {nums : List Nat} {k n : Nat} :
    HeldAt s (s.issued :: nums) (k + 1) n ↔ HeldAt (s.createGrant e i) nums k n := by
  simp only [HeldAt, mem_heldNumbers_createGrant empty, List.take_succ_cons, List.mem_cons]
  tauto

theorem createGrants_cons (s : State) (e : WaitEntry) (i : Item) (rest : List Item) :
    s.createGrants e (i :: rest) =
      (((s.createGrant e i).createGrants e rest).1, s.issued :: ((s.createGrant e i).createGrants e rest).2) := rfl

theorem createGrants_length (e : WaitEntry) (is : List Item) : ∀ s : State, (s.createGrants e is).2.length = is.length := by
  induction is with
  | nil => exact fun _ => rfl
  | cons i rest ih => exact fun s => congrArg Nat.succ (ih (s.createGrant e i))

/-- Grants created on empty slots take their numbers in turn (R21). -/
theorem numbered_createGrants (e : WaitEntry) (is : List Item) : ∀ {s : State}, (∀ i ∈ is, s.slot i.channel = none) →
    (is.map Item.channel).Nodup → Numbered (s.createGrants e is).2 s (s.createGrants e is).1 := by
  induction is with
  | nil => exact fun _ _ => numbered_iff.2 ⟨fun k hk => absurd hk (Nat.not_lt_zero _), rfl⟩
  | cons i rest ih =>
    intro s empty nodup
    obtain ⟨new, nodup⟩ := List.nodup_cons.1 nodup
    have here := empty i List.mem_cons_self
    have later : ∀ j ∈ rest, (s.createGrant e i).slot j.channel = none := fun j m => by
      have other : j.channel ≠ i.channel := fun same => new (same ▸ List.mem_map_of_mem m)
      rw [State.createGrant_slot, if_neg other]
      exact empty j (List.mem_cons_of_mem _ m)
    obtain ⟨numbers, counter⟩ := numbered_iff.1 (ih later nodup)
    rw [State.createGrant_nextNumber] at numbers counter
    rw [createGrants_cons, numbered_iff]
    refine ⟨fun k hk => ?_, by rw [List.length_cons, counterAt_cons_succ, counter]⟩
    cases k with
    | zero =>
      obtain ⟨skipped, issued, passed, fresh⟩ := issued_spec s
      exact ⟨mt heldAt_zero.1 fresh, skipped, issued, fun j lt => heldAt_zero.2 (passed j lt)⟩
    | succ k =>
      obtain ⟨fresh, skipped, issued, passed⟩ := numbers k (Nat.lt_of_succ_lt_succ hk)
      rw [counterAt_cons_succ]
      exact ⟨mt (heldAt_cons_succ here).1 fresh, skipped, issued, fun j lt => (heldAt_cons_succ here).2 (passed j lt)⟩

/-! ### The records of grants created -/

/-- A grant of number n entered for an item: its slot, its channel in CHECKING, its ring and peak restarted (R23). -/
def Entered (e : WaitEntry) (i : Item) (n : Nat) (s t : State) : Prop :=
  t.slot i.channel = some
      { number := n, owner := e.host, epoch := (s.session e.host).epoch, tag := e.tag, amount := i.amount,
        priority := e.priority, cause := none } ∧
    t.chan i.channel = { s.chan i.channel with state := .checking, retries := 0, idleFaults := 0 } ∧
    t.measure i.channel = (s.measure i.channel).restart s.config.averaging

theorem createGrants_measure_of_not_mem {e : WaitEntry} {c : ChanId} (is : List Item) : ∀ {s : State},
    c ∉ is.map Item.channel → (s.createGrants e is).1.measure c = s.measure c := by
  induction is with
  | nil => exact fun _ => rfl
  | cons i rest ih =>
    intro s other
    obtain ⟨ne, other⟩ := not_or.1 (mt List.mem_cons.2 other)
    exact (ih other).trans (by simp [ne])

theorem entered_createGrants (e : WaitEntry) (is : List Item) : ∀ {s : State}, (is.map Item.channel).Nodup →
    ∀ k (hk : k < is.length) (hn : k < (s.createGrants e is).2.length),
      Entered e is[k] (s.createGrants e is).2[k] s (s.createGrants e is).1 := by
  induction is with
  | nil => exact fun _ k hk => absurd hk (Nat.not_lt_zero _)
  | cons i rest ih =>
    intro s nodup k hk hn
    obtain ⟨new, nodup⟩ := List.nodup_cons.1 nodup
    cases k with
    | zero =>
      obtain ⟨slot, chan⟩ := createGrants_of_not_mem (e := e) (s := s.createGrant e i) rest new
      have measure := createGrants_measure_of_not_mem (e := e) (s := s.createGrant e i) rest new
      exact ⟨slot.trans (by simp [State.grantFor, createGrants_cons]), chan.trans (by simp), measure.trans (by simp)⟩
    | succ k =>
      have lt := Nat.lt_of_succ_lt_succ hk
      have other : rest[k].channel ≠ i.channel := fun same =>
        new (same ▸ List.mem_map_of_mem (List.getElem_mem lt))
      obtain ⟨slot, chan, measure⟩ := ih (s := s.createGrant e i) nodup k lt (Nat.lt_of_succ_lt_succ hn)
      have session : (s.createGrant e i).session e.host = s.session e.host := by
        rw [State.session, State.createGrant_sessions, ← State.session]
      rw [session] at slot
      rw [State.createGrant_chan, if_neg other] at chan
      rw [State.createGrant_measure, if_neg other, State.createGrant_config] at measure
      exact ⟨slot, chan, measure⟩

theorem createGrants_admission (e : WaitEntry) (is : List Item) : ∀ s : State,
    (s.createGrants e is).1.grants.admission = s.grants.admission ++ is.map Item.channel := by
  induction is with
  | nil => exact fun s => (List.append_nil _).symm
  | cons i rest ih => exact fun s => (ih _).trans (by simp)

theorem createGrants_hostReserved (e : WaitEntry) (is : List Item) (h : HostId) : ∀ s : State,
    (s.createGrants e is).1.hostReserved h =
      if h = e.host then s.hostReserved h + (is.map Item.amount).sum else s.hostReserved h := by
  induction is with
  | nil => exact fun s => by simp [State.createGrants]
  | cons i rest ih =>
    refine fun s => (ih _).trans ?_
    by_cases own : h = e.host <;> simp [own, Nat.add_assoc]

theorem createGrant_eq (s : State) (e : WaitEntry) (i : Item) :
    s.createGrant e i =
      { s with
        budget := { s.budget with reserved := s.budget.reserved + i.amount }
        grants := (s.createGrant e i).grants
        channels := (s.createGrant e i).channels
        meas := (s.createGrant e i).meas } := by
  simp only [State.createGrant, State.withMeasure, State.withChannel, State.withHostReserved, State.withReserved,
    State.withAdmission, State.withSlot, State.withNextNumber]

/-- The creation of grants touches table, reserved total, channels and measurement records, and no more. -/
theorem createGrants_eq (e : WaitEntry) (is : List Item) : ∀ s : State,
    (s.createGrants e is).1 =
      { s with
        budget := { s.budget with reserved := s.budget.reserved + (is.map Item.amount).sum }
        grants := (s.createGrants e is).1.grants
        channels := (s.createGrants e is).1.channels
        meas := (s.createGrants e is).1.meas } := by
  induction is with
  | nil => exact fun _ => rfl
  | cons i rest ih =>
    intro s
    rw [createGrants_cons]
    dsimp only
    have later := ih (s.createGrant e i)
    have first := createGrant_eq s e i
    generalize s.createGrant e i = u at later first ⊢
    generalize (u.createGrants e rest).1 = t at later ⊢
    refine later.trans ?_
    rw [first, List.map_cons, List.sum_cons, ← Nat.add_assoc]

/-- The grants of an entry on channels that are free and distinct are created as the claims have it (R21 to R23, R25). -/
theorem created_createGrants {s : State} {e : WaitEntry} (free : ∀ i ∈ e.items, Free s i.channel)
    (distinct : (e.items.map Item.channel).Nodup) :
    Created e (s.createGrants e e.items).2 s (s.createGrants e e.items).1 := by
  refine ⟨createGrants_length .., numbered_createGrants e e.items (fun i m => (free i m).2) distinct,
    entered_createGrants e e.items distinct, fun c other => ?_, createGrants_admission ..,
    fun k => createGrants_hostReserved .., createGrants_eq ..⟩
  obtain ⟨slot, chan⟩ := createGrants_of_not_mem (e := e) e.items other
  exact ⟨slot, chan, createGrants_measure_of_not_mem e.items other⟩

/-! ### One step of the scan -/

theorem setEntries_queue_congr {s t : State} (queue : t.queue = s.queue) (now : t.now = s.now) (config : t.config = s.config)
    (es : List WaitEntry) : (t.setEntries es).queue = (s.setEntries es).queue := by
  simp only [State.setEntries, queue]
  split
  · rfl
  · simp only [State.judgeHead, now, config]

theorem setEntries_headBlocking {s : State} {es : List WaitEntry} (head : es.head? = s.queue.entries.head?) :
    (s.setEntries es).queue.headBlocking = s.queue.headBlocking := by
  simp [State.setEntries, head]

/-- The walk goes past entries that are not admissible, under a head that does not block (R50). -/
theorem scanWalk_passed {s : State} {fate : Fate} (todo passed : List WaitEntry) : ∀ (flag : Bool),
    (∀ x ∈ passed, s.admissible x = false) → passed = [] ∨ s.queue.headBlocking = false →
    scanWalk none (passed ++ todo) flag (s, fate) = scanWalk none todo (flag || !passed.isEmpty) (s, fate) := by
  induction passed with
  | nil => intro flag _ _; simp
  | cons x rest ih =>
    intro flag none calm
    have calm := calm.resolve_left (List.cons_ne_nil _ _)
    have here := none x List.mem_cons_self
    have step : scanWalk .none (x :: (rest ++ todo)) flag (s, fate) = scanWalk .none (rest ++ todo) true (s, fate) := by
      simp [scanWalk, calm, here]
    rw [List.cons_append, step, ih true (fun y m => none y (List.mem_cons_of_mem _ m)) (.inr calm)]
    simp

/-- The walk admits an admissible entry at the head, or under a head that does not block, and goes on (R51, R63). -/
theorem scanWalk_admits {s : State} {fate : Fate} {e : WaitEntry} {flag : Bool} (adm : s.admissible e = true)
    (calm : flag = false ∨ s.queue.headBlocking = false) (rest : List WaitEntry) :
    scanWalk none (e :: rest) flag (s, fate) =
      scanWalk none rest flag ((s.admitEntry e).1.post e.host (.claimAdmitted e.tag (s.admitEntry e).2), fate) := by
  have guard : (flag && s.queue.headBlocking) = false := by rcases calm with h | h <;> simp [h]
  simp [scanWalk, guard, adm]

/-- An entry admitted: the grants created, and the queue without it. -/
theorem admitEntry_eq (s : State) (e : WaitEntry) :
    (s.admitEntry e).1 =
      { (s.createGrants e e.items).1 with queue := (s.setEntries (s.queue.entries.erase e)).queue } := by
  have quiet := quiet_createGrants s e e.items
  have queue := State.createGrants_queue s e e.items
  rw [State.admitEntry]
  dsimp only
  rw [State.takeOut, State.setEntries_eq, queue, setEntries_queue_congr queue quiet.now quiet.config]

theorem admitEntry_numbers (s : State) (e : WaitEntry) : (s.admitEntry e).2 = (s.createGrants e e.items).2 := rfl

theorem admitEntry_outbox (s : State) (e : WaitEntry) (h : HostId) : (s.admitEntry e).1.outbox h = s.outbox h := by
  rw [admitEntry_eq, createGrants_eq]
  rfl

/-- The scan from its first admissible entry on: that entry admitted and told, and the queue scanned again (R50, R51). -/
theorem scanQueue_admits {s : State} {passed rest : List WaitEntry} {e : WaitEntry}
    (queue : s.queue.entries = passed ++ e :: rest) (none : ∀ x ∈ passed, s.admissible x = false)
    (adm : s.admissible e = true) (calm : passed = [] ∨ s.queue.headBlocking = false) :
    s.scanQueue =
      ((s.admitEntry e).1.post e.host (.claimAdmitted e.tag (s.admitEntry e).2)).scanQueue := by
  obtain ⟨v, v_eq⟩ : ∃ v, v = (s.admitEntry e).1.post e.host (.claimAdmitted e.tag (s.admitEntry e).2) := ⟨_, rfl⟩
  have notIn : e ∉ passed := fun m => by simp [none e m] at adm
  have left : s.queue.entries.erase e = passed ++ rest := by
    rw [queue, List.erase_append_right _ notIn, List.erase_cons_head]
  have queueV : v.queue = (s.setEntries (passed ++ rest)).queue := by
    rw [v_eq, State.post_queue, admitEntry_eq, left]
  have entriesV : v.queue.entries = passed ++ rest := by rw [queueV, State.setEntries_entries]
  have noneV : ∀ x ∈ passed, v.admissible x = false := fun x m => by
    by_contra h
    have drawn : Drawn s v := v_eq ▸ (drawn_admit s e).trans (drawn_post ..)
    have := drawn.admissible (e := x) (by simpa using h)
    simp [none x m] at this
  have calmV : passed = [] ∨ v.queue.headBlocking = false := by
    rcases calm with first | calm
    · exact .inl first
    · cases passed with
      | nil => exact .inl rfl
      | cons x ps => exact .inr (by rw [queueV, setEntries_headBlocking (by simp [queue]), calm])
  have flag : (false || !passed.isEmpty) = false ∨ s.queue.headBlocking = false := by
    rcases calm with first | calm
    · exact .inl (by simp [first])
    · exact .inr calm
  rw [← v_eq]
  simp only [State.scanQueue]
  rw [queue, entriesV, scanWalk_passed (e :: rest) passed false none calm, scanWalk_admits adm flag, ← v_eq,
    scanWalk_passed rest passed false noneV calmV]

theorem scanWalk_of_none {s : State} {fate : Fate} (todo : List WaitEntry) : ∀ (flag : Bool),
    (∀ x ∈ todo, s.admissible x = false) → (scanWalk none todo flag (s, fate)).1 = s := by
  induction todo with
  | nil => exact fun _ _ => rfl
  | cons x rest ih =>
    intro flag none
    rw [scanWalk]
    split
    · rfl
    · rw [if_neg (by simp [none x List.mem_cons_self])]
      exact ih true fun y m => none y (List.mem_cons_of_mem _ m)

/-- Under a blocking head that is not admissible no entry is examined (R50). -/
theorem scanQueue_of_blocked {s : State} {head : WaitEntry} {rest : List WaitEntry} (queue : s.queue.entries = head :: rest)
    (blocking : s.queue.headBlocking = true) (short : s.admissible head = false) : s.scanQueue = s := by
  have first : scanWalk none (head :: rest) false (s, .unseen) = scanWalk none rest true (s, .unseen) := by
    simp [scanWalk, short]
  rw [State.scanQueue, queue, first]
  cases rest with
  | nil => rfl
  | cons x more => simp [scanWalk, blocking]

/-- Settles O24: the step of the walk, the two scans that change nothing, and what the walk leaves of what it passed. -/
theorem scanLeavesNothingAdmissibleBehind : Obligations.ScanLeavesNothingAdmissibleBehind := by
  intro s
  obtain ⟨-, -, -, headLeft, allLeft⟩ := scanWalk_spec none s.queue.entries [] false s .unseen rfl (by simp) (by simp)
  refine ⟨fun passed e rest queue none adm calm distinct => ?step, fun none => scanWalk_of_none _ _ none, allLeft, headLeft,
    fun head rest queue blocking short => scanQueue_of_blocked queue blocking short⟩
  obtain ⟨v, v_eq⟩ : ∃ v, v = (s.admitEntry e).1.post e.host (.claimAdmitted e.tag (s.admitEntry e).2) := ⟨_, rfl⟩
  have notIn : e ∉ passed := fun m => by simp [none e m] at adm
  have left : s.queue.entries.erase e = passed ++ rest := by
    rw [queue, List.erase_append_right _ notIn, List.erase_cons_head]
  refine ⟨(s.createGrants e e.items).1, v, _, created_createGrants (free_of_admissible adm) distinct, ?form, fun h => ?box,
    v_eq ▸ scanQueue_admits queue none adm calm⟩
  case form =>
    have posted : v = { (s.admitEntry e).1 with outboxes := v.outboxes } := v_eq ▸ State.post_eq ..
    rw [admitEntry_eq, left] at posted
    exact posted
  case box =>
    have att : (s.admitEntry e).1.attached e.host = s.attached e.host := (Act.admitEntry s e (by simp [queue]) adm).quiet.attached _
    rw [v_eq, post_outbox, att, admitEntry_outbox, admitEntry_numbers]
    by_cases own : h = e.host <;> simp [own]

/-! ### A CLAIM that finds an empty queue -/

/-- The creation of grants sees of two states the same: table, reserved total, channels, records, averaging and epochs. -/
structure SameSupply (s t : State) : Prop where
  grants   : t.grants = s.grants
  reserved : t.budget.reserved = s.budget.reserved
  channels : t.channels = s.channels
  meas     : t.meas = s.meas
  config   : t.config = s.config
  epoch    : ∀ h, (t.session h).epoch = (s.session h).epoch

theorem SameSupply.issued {s t : State} (same : SameSupply s t) : t.issued = s.issued := by
  simp only [State.issued, State.heldNumbers, State.slot, same.grants]

theorem SameSupply.createGrant {s t : State} (same : SameSupply s t) (e : WaitEntry) (i : Item) :
    SameSupply (s.createGrant e i) (t.createGrant e i) := by
  have grant : t.grantFor e i = s.grantFor e i := by simp only [State.grantFor, same.issued, same.epoch]
  constructor
  case epoch => intro h; simp only [State.session, State.createGrant_sessions]; exact same.epoch h
  all_goals simp only [State.createGrant, State.withMeasure, State.withChannel, State.withHostReserved, State.withReserved,
    State.withAdmission, State.withSlot, State.withNextNumber, same.grants, same.channels, same.meas, same.config,
    same.reserved, same.issued, grant]

theorem SameSupply.createGrants (e : WaitEntry) (is : List Item) : ∀ {s t : State}, SameSupply s t →
    SameSupply (s.createGrants e is).1 (t.createGrants e is).1 ∧ (t.createGrants e is).2 = (s.createGrants e is).2 := by
  induction is with
  | nil => exact fun same => ⟨same, rfl⟩
  | cons i rest ih =>
    intro s t same
    obtain ⟨after, numbers⟩ := ih (same.createGrant e i)
    exact ⟨after, by rw [createGrants_cons, createGrants_cons, numbers, same.issued]⟩

/-- The arrival number of an entry has no part in its grants. -/
theorem createGrants_arrival (e : WaitEntry) (a : Nat) (is : List Item) : ∀ s : State,
    s.createGrants { e with arrival := a } is = s.createGrants e is := by
  induction is with
  | nil => exact fun _ => rfl
  | cons i rest ih =>
    intro s
    rw [createGrants_cons, createGrants_cons, ← ih]
    rfl

/-- The last entry gone, nothing blocks (R54). -/
theorem setEntries_nil_queue {s : State} (some : s.queue.entries ≠ []) :
    (s.setEntries []).queue = { s.queue with entries := [], headBlocking := false, blockingTimer := none } := by
  have changed : ¬ ([] : List WaitEntry).head? = s.queue.entries.head? := fun same => some (List.head?_eq_none_iff.1 same.symm)
  unfold State.setEntries
  dsimp only
  rw [if_neg changed]
  rfl

/-- The scan of a CLAIM whose admissible entry waits alone admits it and empties the queue (R45, R46, R51). -/
theorem scanFor_alone {s : State} {e : WaitEntry} (alone : s.queue.entries = [e]) (adm : s.admissible e = true) :
    s.scanFor e.host e.tag =
      ({ (s.createGrants e e.items).1 with
          queue :=
            { entries := [], headBlocking := false, blockingTimer := none, nextArrival := s.queue.nextArrival } },
        .admitted (s.createGrants e e.items).2) := by
  have admitted := admitEntry_eq s e
  rw [alone, List.erase_cons_head, setEntries_nil_queue (by simp [alone])] at admitted
  have key : e.key = (e.host, e.tag) := rfl
  rw [← admitted, State.scanFor, alone]
  simp [scanWalk, adm, key, admitEntry_numbers]

/-- The taking of a frame and a queue of any content make no difference to the grants created. -/
theorem sameSupply_taken (s : State) (h : HostId) (q : WaitQueue) : SameSupply s { taken s h with queue := q } where
  grants := rfl
  reserved := rfl
  channels := rfl
  meas := rfl
  config := rfl
  epoch := taken_epoch s h

/-- The scan of a CLAIM whose admissible entry is alone, against the creation of its grants in the state before the taking: its
fate, and the response to it (R21, R23, R47). -/
theorem scanFor_taken {s x : State} {h : HostId} {f : Frame} {e : WaitEntry} {a : Nat} {q : WaitQueue}
    (x_eq : x = { taken s h with queue := q }) (alone : q.entries = [{ e with arrival := a }]) (own : e.host = h)
    (tag : e.tag = f.tag) (adm : s.admissible e = true) :
    ∃ v, x.scanFor h f.tag = (v, .admitted (s.createGrants e e.items).2) ∧
      v.respond h f (.claimAdmitted (s.createGrants e e.items).2) =
        { answered (s.createGrants e e.items).1 h f (.claimAdmitted (s.createGrants e e.items).2) with
          queue := { entries := [], headBlocking := false, blockingTimer := none, nextArrival := q.nextArrival } } := by
  subst own
  have supply : SameSupply s x := x_eq ▸ sameSupply_taken s e.host q
  have aloneX : x.queue.entries = [{ e with arrival := a }] := by rw [x_eq]; exact alone
  have admX : x.admissible { e with arrival := a } = true := by rw [x_eq]; exact adm
  have scanned := scanFor_alone aloneX admX
  obtain ⟨after, numbers⟩ := supply.createGrants e e.items
  rw [createGrants_arrival, numbers] at scanned
  rw [← tag]
  refine ⟨_, scanned, ?_⟩
  have created := createGrants_eq e e.items x
  have before := createGrants_eq e e.items s
  rw [after.grants, after.channels, after.meas] at created
  rw [created, x_eq]
  generalize (s.createGrants e e.items).2 = nums
  generalize (s.createGrants e e.items).1 = v at before ⊢
  rw [before]
  rfl

theorem claimWait_of_admitted {s v : State} {h : HostId} {f : Frame} {cl : Claim} {nums : List Nat}
    (room : s.queueFull h = false)
    (scan : ((s.place (s.entryFor h f.tag cl s.queue.nextArrival)).advanceArrival).scanFor h f.tag = (v, .admitted nums)) :
    s.claimWait h f cl = v.respond h f (.claimAdmitted nums) := by
  simp [State.claimWait, room, scan]

theorem claimNoWait_of_admitted {s v : State} {h : HostId} {f : Frame} {cl : Claim} {nums : List Nat}
    (scan : (s.place (s.entryFor h f.tag cl 0)).scanFor h f.tag = (v, .admitted nums)) :
    s.claimNoWait h f cl = v.respond h f (.claimAdmitted nums) := by
  simp [State.claimNoWait, scan]

/-- An entry placed into an empty queue is alone in it. -/
theorem place_of_empty {s : State} (empty : s.queue.entries = []) (e : WaitEntry) :
    ∃ q : WaitQueue, s.place e = { s with queue := q } ∧ q.entries = [e] ∧ q.nextArrival = s.queue.nextArrival := by
  refine ⟨(s.place e).queue, State.setEntries_eq .., ?_, State.setEntries_arrival ..⟩
  rw [State.place, State.setEntries_entries, empty]
  rfl

theorem exec_claim_of_checked {s : State} {h : HostId} {f : Frame} {cl : Claim} (n : Served .claim s h f)
    (read : claimFields f.body = .ok cl) (passed : s.claimRefusal h f.tag cl = none) :
    exec .claim s = .next (if cl.waits then (taken s h).claimWait h f cl else (taken s h).claimNoWait h f cl) := by
  have passed' : (taken s h).claimRefusal h f.tag cl = none := passed
  have row : exec .claim s = .next (handleClaim h f (taken s h)) := congrArg _ (taking_served n handleClaim)
  rw [row, handleClaim, read]
  dsimp only
  rw [passed']

/-- Settles O18: WAIT or not, the entry is alone in the queue, and its scan admits it. -/
theorem admissibleClaimIsAdmittedAtOnce : Obligations.AdmissibleClaimIsAdmittedAtOnce := by
  intro s h f cl sum n read passed empty sum_eq chans fits cap
  let e := s.entryFor h f.tag cl 0
  have adm : s.admissible e = true := by
    have total : e.sum = sum := sum_eq.symm
    simp only [State.admissible, Bool.and_eq_true, decide_eq_true_eq, total]
    exact ⟨⟨chans, fits⟩, cap⟩
  have distinct : (e.items.map Item.channel).Nodup := (claimFields_items read).1
  refine ⟨_, _, created_createGrants (free_of_admissible adm) distinct, ?_⟩
  rw [exec_claim_of_checked n read passed]
  cases waits : cl.waits with
  | true =>
    have room : (taken s h).queueFull h = false := by simp [State.queueFull, empty, Config.queueCapacity, Config.queuePerHost]
    obtain ⟨q, placed, alone, arrival⟩ := place_of_empty (s := taken s h) empty { e with arrival := s.queue.nextArrival }
    obtain ⟨v, scan, answer⟩ := scanFor_taken (s := s) (h := h) (f := f) (e := e)
      (q := { q with nextArrival := (q.nextArrival + 1) % Config.arrivals }) (congrArg State.advanceArrival placed) alone rfl rfl
      adm
    rw [if_pos rfl, claimWait_of_admitted room scan]
    refine congrArg _ (answer.trans ?_)
    rw [arrival]
    rfl
  | false =>
    obtain ⟨q, placed, alone, arrival⟩ := place_of_empty (s := taken s h) empty e
    obtain ⟨v, scan, answer⟩ := scanFor_taken (s := s) (h := h) (f := f) (e := e) (a := 0) placed alone rfl rfl adm
    rw [if_neg Bool.false_ne_true, claimNoWait_of_admitted scan]
    refine congrArg _ (answer.trans ?_)
    rw [arrival]
    rfl

end Sys2Proof
end

section
/-! The adoptions that replace settings, mend a quarantined channel or release one grant (R35, R55, R89, R103, R160 to R164). -/

namespace Sys2Proof

open Machine

theorem adopt_setAveraging (s : State) (straps : BitVec 2) (n : Nat) :
    s.adopt straps (.setAveraging n) = State.restartRings { s with config := { s.config with averaging := n } } := rfl

theorem adopt_clearChannelFault {s : State} {c : ChanId} (faulted : (s.chan c).state = .faulted) (straps : BitVec 2) :
    s.adopt straps (.clearChannelFault c) = s.withChannel c fun _ => Channel.rest .idle := if_pos faulted

theorem adopt_setQueueAge (s : State) (straps : BitVec 2) (a : Nat) :
    s.adopt straps (.setQueueAge a) =
      let t : State := { s with config := { s.config with blockingAge := a }, queue := s.queue.judge s.now a }
      if s.queue.headBlocking = true ∧ t.queue.headBlocking = false then t.scanQueue else t := by
  simp only [State.adopt, State.adoptQueueAge, State.judgeHead, State.withConfig, Bool.and_eq_true, Bool.not_eq_true']

theorem adopt_forceRelease_of_number {s : State} {c : ChanId} {g : Grant} (slot : s.slot c = some g) (straps : BitVec 2) :
    s.adopt straps (.forceRelease c g.number) = s.releaseGrant c .forced := by
  simp [State.adopt, State.adoptForceRelease, slot]

/-- A FORCE_RELEASE of another number, or of a grant that is DISCHARGING, is passed over (R35, R164). -/
theorem adopt_forceRelease_of_other {s : State} {c : ChanId} {n : Nat}
    (other : ∀ g, s.slot c = some g → g.number ≠ n ∨ (s.chan c).state = .discharging) (straps : BitVec 2) :
    s.adopt straps (.forceRelease c n) = s := by
  rw [State.adopt, State.adoptForceRelease]
  split
  · rfl
  · next g slot =>
    split
    · next number => exact releaseGrant_of_discharging ((other g slot).resolve_left (not_not.2 number)) .forced
    · rfl

/-- Settles O49, by the six kinds. -/
theorem adoptionsChangeWhatTheyName : Obligations.AdoptionsChangeWhatTheyName := by
  refine fun s straps => ⟨fun p => rfl, fun c r o l g => rfl, fun n => ⟨_, rfl, ?averaging, fun c => ?rings⟩,
    fun c faulted => adopt_clearChannelFault faulted straps, fun a => ⟨_, rfl, adopt_setQueueAge s straps a⟩,
    fun c n => ⟨fun other => adopt_forceRelease_of_other other straps, fun g slot number => ?release⟩⟩
  case averaging =>
    rw [adopt_setAveraging]
    exact State.restartRings_eq _
  case rings =>
    rw [adopt_setAveraging]
    exact State.restartRings_measure _ c
  case release =>
    subst number
    exact adopt_forceRelease_of_number slot straps

end Sys2Proof
end

section
/-! The two quarantines that a sample brings: a failed check (R76, R88) and the eighth consecutive IDLE sample without the output
off (R74). -/

namespace Sys2Proof

open Machine

theorem outputOff_of_not_off {r : Reading} (on : ¬ 20 * r.output < r.bus) : outputOff r = false := by
  simpa [outputOff] using on

/-- The slot completion of a channel in a state that has no verdict: the sequencer gets the sample recorded (R72, R109). -/
theorem completeSlot_of_no_verdict {s : State} {sc : Scan} {c : ChanId} {r : Reading} (scan : s.scan = some sc)
    (here : sc.slot = c) (none : s.verdict c (sampleOf r) = .none) :
    s.completeSlot c r =
      ((sampled (s.advanceScan sc) c (sampleOf r)).sampleArrival c (outputOff (sampleOf r))
        (outputGood (s.settings c).pgInput (sampleOf r)) .none).countRound c := by
  have noneA : (s.advanceScan sc).verdict c (sampleOf r) = .none := none
  have event : (s.advanceScan sc).sampleEvent c (sampleOf r) =
      (sampled (s.advanceScan sc) c (sampleOf r)).sampleArrival c (outputOff (sampleOf r))
        (outputGood ((s.advanceScan sc).settings c).pgInput (sampleOf r)) ((s.advanceScan sc).verdict c (sampleOf r)) := rfl
  rw [State.completeSlot_of_slot scan here, event, noneA]
  rfl

/-- The state after the sample's own records, against the state before the completion. -/
theorem sampled_advanceScan_eq (s : State) (sc : Scan) (c : ChanId) (r : Reading) :
    sampled (s.advanceScan sc) c r =
      { s with
        now := max s.now sc.ends
        scan := some { slot := sc.slot + 1, ends := sc.ends + 1 }
        meas := (sampled (s.advanceScan sc) c r).meas
        tallies := (sampled (s.advanceScan sc) c r).tallies } :=
  sampled_eq ..

/-! ### A failed check -/

/-- A grant ended with its cause recorded in the same event: the recording leaves no trace but the notice (R31, R33). -/
theorem endToFaulted_markCause {p : State} {c : ChanId} {g : Grant} (slot : p.slot c = some g) (k : ReleaseCause) :
    (p.markCause c k).endToFaulted c =
      ((State.scanQueue
          { p.removeGrant c g .faulted with
            outboxes := (p.postEnded c { g with cause := some k }).outboxes }).announceFault c).endClosing g.owner := by
  have marked : (p.markCause c k).slot c = some { g with cause := some k } := by simp [State.markCause_slot, slot]
  have told : ((p.markCause c k).postEnded c { g with cause := some k }).outboxes =
      (p.postEnded c { g with cause := some k }).outboxes := postEnded_outboxes_congr (s := p) (t := p.markCause c k) rfl rfl c _
  rw [endToFaulted_eq marked, told, ← removeGrant_markCause p c g k]
  rfl

/-- A CHECKING sample without the output off, as one state before the scan (R76). -/
theorem exec_slotCompletion_of_failed {s : State} {sc : Scan} {c : ChanId} {r : Reading} {g : Grant}
    (scan : s.scan = some sc) (here : sc.slot = c) (slot : s.slot c = some g) (state : (s.chan c).state = .checking)
    (on : ¬ 20 * (sampleOf r).output < (sampleOf r).bus) :
    exec (.slotCompletion c r) s = .next
      (((State.scanQueue
          { s.removeGrant c g .faulted with
            now := max s.now sc.ends
            scan := some { slot := c + 1, ends := sc.ends + 1 }
            meas := (sampled (s.advanceScan sc) c (sampleOf r)).meas
            tallies := (sampled (s.advanceScan sc) c (sampleOf r)).tallies
            outboxes := (s.postEnded c { g with cause := some .switchFault }).outboxes }).announceFault c).endClosing
        g.owner |>.countRound c) := by
  subst here
  change Host.Outcome.next (s.completeSlot sc.slot r) = _
  rw [completeSlot_of_no_verdict scan rfl (by simp [State.verdict, state]), outputOff_of_not_off on]
  have eq := sampled_advanceScan_eq s sc sc.slot (sampleOf r)
  generalize sampled (s.advanceScan sc) sc.slot (sampleOf r) = p at eq ⊢
  have slotP : p.slot sc.slot = some g := by rw [eq]; exact slot
  have stateP : (p.chan sc.slot).state = .checking := by rw [eq]; exact state
  have told : (p.postEnded sc.slot { g with cause := some .switchFault }).outboxes =
      (s.postEnded sc.slot { g with cause := some .switchFault }).outboxes :=
    postEnded_outboxes_congr (by rw [eq]) (by rw [eq]) _ _
  have records : p.removeGrant sc.slot g .faulted =
      { s.removeGrant sc.slot g .faulted with
        now := max s.now sc.ends, scan := some { slot := sc.slot + 1, ends := sc.ends + 1 }, meas := p.meas
        tallies := p.tallies } := by
    rw [removeGrant_eq, removeGrant_eq, eq]
    rfl
  simp only [State.sampleArrival, stateP, State.sampleChecking, Bool.false_eq_true, if_false]
  rw [endToFaulted_markCause slotP, told, records]

/-! ### The eighth idle fault -/

/-- The eighth consecutive IDLE sample without the output off (R74). -/
theorem completeSlot_of_idle_limit {s : State} {sc : Scan} {c : ChanId} {r : Reading} (scan : s.scan = some sc)
    (here : sc.slot = c) (state : (s.chan c).state = .idle) (faults : (s.chan c).idleFaults = 7)
    (on : ¬ 20 * (sampleOf r).output < (sampleOf r).bus) :
    s.completeSlot c r =
      (State.announceFault c
        { s with
          now := max s.now sc.ends
          scan := some { slot := c + 1, ends := sc.ends + 1 }
          channels := s.channels.upd c fun _ => Channel.rest .faulted
          meas := (sampled (s.advanceScan sc) c (sampleOf r)).meas
          tallies := (sampled (s.advanceScan sc) c (sampleOf r)).tallies }).countRound c := by
  subst here
  rw [completeSlot_of_no_verdict scan rfl (by simp [State.verdict, state]), outputOff_of_not_off on]
  have eq := sampled_advanceScan_eq s sc sc.slot (sampleOf r)
  generalize sampled (s.advanceScan sc) sc.slot (sampleOf r) = p at eq ⊢
  have chanP : p.chan sc.slot = s.chan sc.slot := by rw [eq]; rfl
  have limit : ¬ (p.chan sc.slot).idleFaults + 1 < Config.idleFaultLimit := by simp [chanP, faults, Config.idleFaultLimit]
  have stateP : (p.chan sc.slot).state = .idle := by rw [chanP, state]
  simp only [State.sampleArrival, stateP, State.sampleIdle, Bool.false_eq_true, if_false, if_neg limit, State.faultIdle]
  rw [eq]
  rfl

theorem exec_idleFaultLimit_of_limit {s : State} {c : ChanId} {r : Reading} (state : (s.chan c).state = .idle)
    (faults : (s.chan c).idleFaults = 7) (on : ¬ 20 * (sampleOf r).output < (sampleOf r).bus) :
    exec (.idleFaultLimit c r) s = .next (s.completeSlot c r) := by
  have reached : s.idleLimitReached c (sampleOf r) = true := by
    simp [State.idleLimitReached, state, faults, outputOff_of_not_off on, Config.idleFaultLimit]
  exact congrArg _ (if_pos reached)

/-! ### The claim -/

/-- What the counting of a round leaves of a state (R115). -/
theorem countRound_same (x : State) (c : ChanId) :
    (x.countRound c).chan = x.chan ∧ (x.countRound c).slot = x.slot ∧ (x.countRound c).queue = x.queue := by
  rw [State.countRound_eq]
  exact ⟨rfl, rfl, rfl⟩

/-- Settles O31: both quarantines through the announcement of the fault, the first from the records of the grant's end on. -/
theorem failedCheckAndIdleLimitQuarantine : Obligations.FailedCheckAndIdleLimitQuarantine := by
  refine ⟨fun s sc c r g scan here slot state on => ?failed, fun s sc c r scan here state faults on => ?limit⟩
  case failed =>
    have run := exec_slotCompletion_of_failed scan here slot state on
    obtain ⟨u, u_eq⟩ : ∃ u, u =
      { s.removeGrant c g .faulted with
        now := max s.now sc.ends
        scan := some { slot := c + 1, ends := sc.ends + 1 }
        meas := (sampled (s.advanceScan sc) c (sampleOf r)).meas
        tallies := (sampled (s.advanceScan sc) c (sampleOf r)).tallies
        outboxes := (s.postEnded c { g with cause := some .switchFault }).outboxes } := ⟨_, rfl⟩
    rw [← u_eq] at run
    have records := u_eq
    rw [removeGrant_eq, if_neg (by simp [state])] at records
    have faulted : u.chan c = Channel.rest .faulted := by rw [records]; exact Table.read_upd_self ..
    have vacant : u.slot c = none := by rw [records]; exact Table.read_upd_self ..
    obtain ⟨x, v, w, x_eq, -, -, chan, empty, unnamed, told, failed, course, -⟩ :=
      faulted_course (s := s) (u := u) (by rw [records]) g.owner faulted vacant
    rw [x_eq] at run
    obtain ⟨chans, slots, queue⟩ := countRound_same x c
    refine ⟨x.countRound c, u, v, w, run, by rw [chans, chan], by rw [slots, empty], by rw [queue]; exact unnamed, ?_,
      fun h => ?_, told, failed, ?_⟩
    · rw [records]
    · rw [records]
      refine (postEnded_outbox rfl h).trans ?_
      simp only [ne_eq, reduceCtorEq, not_false_eq_true, true_and]
      rfl
    · rw [← course]
      exact State.countRound_eq ..
  case limit =>
    have completed := completeSlot_of_idle_limit scan here state faults on
    obtain ⟨u, u_eq⟩ : ∃ u : State, u =
      { s with
        now := max s.now sc.ends
        scan := some { slot := c + 1, ends := sc.ends + 1 }
        channels := s.channels.upd c fun _ => Channel.rest .faulted
        meas := (sampled (s.advanceScan sc) c (sampleOf r)).meas
        tallies := (sampled (s.advanceScan sc) c (sampleOf r)).tallies } := ⟨_, rfl⟩
    rw [← u_eq] at completed
    have faulted : u.chan c = Channel.rest .faulted := by rw [u_eq]; exact Table.read_upd_self ..
    have kept := ((keepsTaken_announceFault u c).taken c (by simp [Free, faulted, Channel.rest])).2
    obtain ⟨chans, slots, queue⟩ := countRound_same (u.announceFault c) c
    let v := u.broadcast (.channelFaulted c)
    refine ⟨_, u, v, v.postFailed .channelFaulted (v.queue.entries.filter (WaitEntry.names c)),
      (exec_idleFaultLimit_of_limit state faults on).trans (congrArg _ completed), congrArg _ completed,
      by rw [chans, kept, faulted], by rw [queue]; exact fun e => names_of_mem_announceFault, ?_,
      broadcast_broadcast .., failed_postFailed .., ?_⟩
    · rw [u_eq]
    · rw [← failAndScan_eq]
      exact State.countRound_eq ..

end Sys2Proof
end

section
/-! The closing of a session (R131, R135, R137): what acts and adoptions leave of a host that is not attached, its teardown step
by step, and the claim. -/

namespace Sys2Proof

open Machine

/-! ### What a host holds through acts -/

/-- From `s` to `t` host h gets no grant, and one of its grants that is DISCHARGING stays so. -/
def StillHeld (h : HostId) (s t : State) : Prop :=
  ∀ c g, t.slot c = some g → g.owner = h →
    ∃ k, s.slot c = some k ∧ k.owner = h ∧ ((s.chan c).state = .discharging → (t.chan c).state = .discharging)

namespace StillHeld

variable {h : HostId} {s t u : State}

theorem of_same (slot : ∀ c, t.slot c = s.slot c) (chan : ∀ c, t.chan c = s.chan c) : StillHeld h s t :=
  fun c g held own => ⟨g, slot c ▸ held, own, fun state => chan c ▸ state⟩

theorem of_eq (grants : t.grants = s.grants) (channels : t.channels = s.channels) : StillHeld h s t :=
  .of_same (fun c => by simp [State.slot, grants]) fun c => by simp [State.chan, channels]

theorem trans (first : StillHeld h s t) (second : StillHeld h t u) : StillHeld h s u := by
  intro c g held own
  obtain ⟨k, held', own', stays⟩ := second c g held own
  obtain ⟨j, held'', own'', stays'⟩ := first c k held' own'
  exact ⟨j, held'', own'', fun state => stays (stays' state)⟩

theorem holds (still : StillHeld h s t) {c : ChanId} (none : s.holds h c = false) : t.holds h c = false := by
  rw [← Bool.not_eq_true]
  intro held
  cases slot : t.slot c with
  | none => simp [State.holds, slot] at held
  | some g =>
    obtain ⟨k, slot', own, -⟩ := still c g slot (by simpa [holds_of_slot slot] using held)
    simp [holds_of_slot slot', own] at none

end StillHeld

/-- The grants created for an entry are its host's (R23). -/
theorem owner_createGrants {e : WaitEntry} {c : ChanId} (is : List Item) : ∀ {s : State}, c ∈ is.map Item.channel →
    ∃ g, (s.createGrants e is).1.slot c = some g ∧ g.owner = e.host := by
  induction is with
  | nil => exact fun named => absurd named List.not_mem_nil
  | cons i rest ih =>
    intro s named
    by_cases later : c ∈ rest.map Item.channel
    · exact ih later
    · obtain rfl : c = i.channel := (List.mem_cons.1 named).resolve_right later
      exact ⟨s.grantFor e i, (createGrants_of_not_mem (e := e) rest later).1.trans (by simp), rfl⟩

/-- No entry of host h waits. -/
def Unqueued (h : HostId) (s : State) : Prop := ∀ e ∈ s.queue.entries, e.host ≠ h

theorem Machine.Act.entries {s t : State} (a : Act s t) : ∀ e ∈ t.queue.entries, e ∈ s.queue.entries := by
  cases a with
  | post => simp
  | leave es sub => simpa using fun e m => sub.subset m
  | admitEntry e => simpa using fun x m => List.mem_of_mem_erase m
  | finish => simp
  | close h =>
    rw [endClosing_eq]
    exact fun _ m => m
  | _ => exact fun _ m => m

theorem Machine.Act.stillHeld {h : HostId} {s t : State} (none : Unqueued h s) (a : Act s t) : StillHeld h s t := by
  cases a with
  | post j n => exact .of_same (fun _ => State.post_slot ..) fun _ => State.post_chan ..
  | leave es => rw [State.setEntries_eq]; exact .of_eq rfl rfl
  | close j => rw [endClosing_eq]; exact .of_eq rfl rfl
  | admitEntry e mem =>
    refine StillHeld.trans (t := (s.createGrants e e.items).1) (fun c g held own => ?_) ?_
    · by_cases named : c ∈ e.items.map Item.channel
      · obtain ⟨k, held', owner⟩ := owner_createGrants (e := e) (s := s) e.items named
        cases held'.symm.trans held
        exact absurd (owner.symm.trans own) (none e mem)
      · obtain ⟨slot, chan⟩ := createGrants_of_not_mem (e := e) (s := s) e.items named
        exact ⟨g, slot ▸ held, own, fun state => chan ▸ state⟩
    · rw [admitEntry_eq]
      exact .of_eq rfl rfl
  | finish c g after =>
    intro d k held own
    rw [removeGrant_slot] at held
    split at held
    · cases held
    · next other => exact ⟨k, held, own, fun state => by rwa [removeGrant_chan, if_neg other]⟩
  | mark c k =>
    intro d g held own
    rw [State.markCause_slot] at held
    split at held
    · obtain ⟨j, slot, rfl⟩ := Option.map_eq_some_iff.1 held
      exact ⟨j, slot, own, id⟩
    · exact ⟨g, held, own, id⟩
  | discharge c g k =>
    refine fun d j held own => ⟨j, held, own, fun state => ?_⟩
    rw [startDischarge_chan]
    split
    · rfl
    · exact state
  | fault c idle =>
    refine fun d j held own => ⟨j, held, own, fun state => ?_⟩
    have other : d ≠ c := by rintro rfl; simp [idle] at state
    rwa [State.withChannel_chan, if_neg other]

theorem Machine.Acts.stillHeld {h : HostId} {s t : State} (a : Acts s t) (none : Unqueued h s) : Unqueued h t ∧ StillHeld h s t := by
  induction a with
  | refl => exact ⟨none, .of_eq rfl rfl⟩
  | tail _ a ih =>
    obtain ⟨none', still⟩ := ih
    exact ⟨fun e m => none' e (a.entries e m), still.trans (a.stillHeld none')⟩

/-! ### A host that departs -/

/-- Host h has left, or leaves: the clock stands at n, nothing of the host waits, its outbox is empty, its session is the record
`r` in CLOSING, or in DETACHED with no grant left, and of its grants those on the channels `quit` are DISCHARGING. -/
structure Departing (h : HostId) (r : Session) (n : Nat) (quit : ChanId → Prop) (s : State) : Prop where
  now : s.now = n
  waits : Unqueued h s
  outbox : s.outbox h = []
  session : s.session h = { r with state := .closing } ∨
    s.session h = { r with state := .detached } ∧ ∀ c, s.holds h c = false
  quits : ∀ c, quit c → ∀ g, s.slot c = some g → g.owner = h → (s.chan c).state = .discharging

namespace Departing

variable {h : HostId} {r : Session} {n : Nat} {quit : ChanId → Prop} {s t : State}

theorem not_attached (d : Departing h r n quit s) : ¬ s.attached h = true := by
  rcases d.session with closing | ⟨detached, -⟩ <;> simp [State.attached, *]

theorem of_still (d : Departing h r n quit s) (now : t.now = s.now) (entries : ∀ e ∈ t.queue.entries, e ∈ s.queue.entries)
    (outbox : t.outbox h = s.outbox h)
    (session : t.session h = s.session h ∨ t.session h = { r with state := .detached } ∧ ∀ c, s.holds h c = false)
    (still : StillHeld h s t) : Departing h r n quit t where
  now := now.trans d.now
  waits e m := d.waits e (entries e m)
  outbox := outbox.trans d.outbox
  session := by
    rcases session with same | ⟨detached, none⟩
    · exact same ▸ d.session.imp_right fun out => ⟨out.1, fun c => still.holds (out.2 c)⟩
    · exact .inr ⟨detached, fun c => still.holds (none c)⟩
  quits c here g held own := by
    obtain ⟨k, held', own', stays⟩ := still c g held own
    exact stays (d.quits c here k held' own')

/-- What is not of clock, table, channels, entries, sessions or outboxes does not matter. -/
theorem of_same (d : Departing h r n quit s) (now : t.now = s.now) (grants : t.grants = s.grants)
    (channels : t.channels = s.channels) (entries : t.queue.entries = s.queue.entries) (sessions : t.sessions = s.sessions)
    (outboxes : t.outboxes = s.outboxes) : Departing h r n quit t :=
  d.of_still now (by simp [entries]) (by simp [State.outbox, outboxes]) (.inl (by simp [State.session, sessions]))
    (.of_eq grants channels)

/-- An act posts nothing to a host that is not attached. -/
theorem act_outbox (d : Departing h r n quit s) (a : Act s t) : t.outbox h = s.outbox h := by
  cases a with
  | post j k =>
    rw [post_outbox, if_neg]
    rintro ⟨rfl, att⟩
    exact d.not_attached att
  | leave es => rw [State.setEntries_eq]; rfl
  | admitEntry e => exact admitEntry_outbox ..
  | finish c g after => rw [removeGrant_eq]; rfl
  | close j => rw [endClosing_eq]; rfl
  | mark | discharge | fault => rfl

/-- An act changes no session, but that CLOSING may end for a host that holds no grant. -/
theorem act_session (d : Departing h r n quit s) (a : Act s t) :
    t.session h = s.session h ∨ t.session h = { r with state := .detached } ∧ ∀ c, s.holds h c = false := by
  cases a with
  | close j =>
    rw [endClosing_session]
    split
    · next ends =>
      obtain ⟨-, -, none⟩ := ends
      refine .inr ⟨?_, none⟩
      rcases d.session with closing | ⟨detached, -⟩ <;> simp [*]
    · exact .inl rfl
  | post => rw [State.post_eq]; exact .inl rfl
  | leave es => rw [State.setEntries_eq]; exact .inl rfl
  | admitEntry e => rw [admitEntry_eq, createGrants_eq]; exact .inl rfl
  | finish c g after => rw [removeGrant_eq]; exact .inl rfl
  | mark | discharge | fault => exact .inl rfl

theorem act (d : Departing h r n quit s) (a : Act s t) : Departing h r n quit t :=
  d.of_still a.quiet.now a.entries (d.act_outbox a) (d.act_session a) (a.stillHeld d.waits)

theorem acts (d : Departing h r n quit s) (a : Acts s t) : Departing h r n quit t :=
  a.keeps (fun _ _ d a => d.act a) d

end Departing

/-! ### Adoptions -/

/-- A law that acts keep, that a quarantined channel's return to IDLE keeps, and that sees no configuration, total, blocking,
measurement or tally, is kept by every adoption (R158 to R165). -/
theorem adopt_keeps {law : State → Prop} (acts : ∀ {s t : State}, law s → Acts s t → law t)
    (same : ∀ {s t : State}, law s → t.now = s.now → t.grants = s.grants → t.channels = s.channels →
      t.queue.entries = s.queue.entries → t.sessions = s.sessions → t.outboxes = s.outboxes → law t)
    (mend : ∀ {s : State} {c : ChanId}, law s → (s.chan c).state = .faulted → law (s.withChannel c fun _ => Channel.rest .idle))
    {s : State} (l : law s) (straps : BitVec 2) (ch : Change) : law (s.adopt straps ch) := by
  have configured {s : State} (l : law s) (k : Configuration) : law { s with config := k } := same l rfl rfl rfl rfl rfl rfl
  have recomputed {s : State} (l : law s) (k : BudgetCause) : law (s.recompute k) := by
    have level : law (s.withTotal s.selectedLevel) := same l rfl rfl rfl rfl rfl rfl
    exact acts level (acts_recompute s k)
  have restarted {s : State} (l : law s) : law s.restartRings := by
    rw [State.restartRings_eq]
    exact same l rfl rfl rfl rfl rfl rfl
  have zeroed {s : State} (l : law s) : law s.zeroTallies := same l rfl rfl rfl rfl rfl rfl
  cases ch with
  | setBudget n d => exact recomputed (configured l _) .config
  | setCeiling c v => exact acts (configured l (s.withSettings c fun k => { k with ceiling := v }).config) (acts_failAndScan ..)
  | setChannelTiming => exact configured l _
  | setLease => exact configured l _
  | setHostCap h v =>
    rw [adopt_setHostCap]
    dsimp only
    split
    · exact acts (configured l _) ((acts_failEntries ..).trans (acts_scanQueue _))
    · exact configured l _
  | setQueueAge a =>
    have entries : (s.queue.judge s.now a).entries = s.queue.entries := by
      unfold WaitQueue.judge
      split
      · rfl
      · split
        · rfl
        · split <;> rfl
    have judged : law { s with config := { s.config with blockingAge := a }, queue := s.queue.judge s.now a } :=
      same l rfl rfl rfl entries rfl rfl
    rw [adopt_setQueueAge]
    dsimp only
    split
    · exact acts judged (acts_scanQueue _)
    · exact judged
  | setAveraging n => exact restarted (configured l _)
  | clearChannelFault c =>
    rw [State.adopt, State.adoptClearFault]
    split
    · next faulted => exact mend l faulted
    · exact l
  | forceRelease c n =>
    rw [State.adopt, State.adoptForceRelease]
    split
    · exact l
    · split
      · exact acts l (acts_releaseGrant ..)
      · exact l
  | resetPart =>
    have read : law (s.readStraps straps) := same l rfl rfl rfl rfl rfl rfl
    have emptied := acts (acts read (acts_failEntries _ (fun _ => true) .reset)) (acts_releaseAll _ (fun _ => true) .reset)
    exact zeroed (restarted (recomputed (configured emptied (Configuration.default straps)) .config))

theorem Departing.adopt {h : HostId} {r : Session} {n : Nat} {quit : ChanId → Prop} {s : State} (d : Departing h r n quit s)
    (straps : BitVec 2) (ch : Change) : Departing h r n quit (s.adopt straps ch) := by
  refine adopt_keeps (fun d a => d.acts a) (fun d now grants channels entries sessions outboxes =>
    d.of_same now grants channels entries sessions outboxes) (fun d faulted => ?_) d straps ch
  refine d.of_still rfl (fun _ m => m) rfl (.inl rfl) fun e g held own => ⟨g, held, own, fun state => ?_⟩
  rw [State.withChannel_chan, if_neg]
  · exact state
  · rintro rfl
    simp [faulted] at state

end Sys2Proof
end

section
/-! The teardown of a host, step by step, and the closing of its session by DETACH and by the lease's expiry (R131, R135, R137,
R139, R155). -/

namespace Sys2Proof

open Machine

/-! ### The release of a host's grants -/

/-- Channel c's grant released at teardown, when it is host h's (R34). -/
def releaseOwn (h : HostId) (s : State) (c : ChanId) : State :=
  if s.holds h c then s.releaseGrant c .teardown else s

theorem releaseAll_own (s : State) (h : HostId) :
    s.releaseAll (fun g => g.owner == h) .teardown = s.grants.admission.foldl (releaseOwn h) s := by
  unfold State.releaseAll
  congr
  funext t c
  unfold releaseOwn
  split
  · next slot => rw [holds_of_empty slot]; rfl
  · next g slot => rw [holds_of_slot slot]

theorem acts_releaseOwn (h : HostId) (s : State) (c : ChanId) : Acts s (releaseOwn h s c) := by
  unfold releaseOwn
  split
  · exact acts_releaseGrant ..
  · exact .refl _

/-- A grant released of a host with nothing waiting discharges, or is gone and not replaced by another of the host (R30). -/
theorem discharging_releaseGrant {h : HostId} {s : State} {c : ChanId} {g : Grant} (slots : SlotLaw s) (quiet : Unqueued h s)
    (k : ReleaseCause) (held : (s.releaseGrant c k).slot c = some g) (own : g.owner = h) :
    ((s.releaseGrant c k).chan c).state = .discharging := by
  cases slot : s.slot c with
  | none => simp [State.releaseGrant, slot] at held
  | some j =>
    have discharged (state : (s.chan c).state = .ramping ∨ (s.chan c).state = .on) :
        ((s.releaseGrant c k).chan c).state = .discharging := by
      rw [releaseGrant_of_gated slot state, startDischarge_chan, if_pos rfl]
    have ended (state : (s.chan c).state = .checking ∨ (s.chan c).state = .holdoff ∨ (s.chan c).state = .latched) :
        ((s.releaseGrant c k).chan c).state = .discharging := by
      have form := releaseGrant_ends slot state k
      obtain ⟨u, u_eq⟩ : ∃ u, u = { s.removeGrant c j .idle with
        outboxes := ((s.postRevoked c j k).postEnded c { j with cause := some k }).outboxes } := ⟨_, rfl⟩
      rw [← u_eq] at form
      have empty : u.slot c = none := by
        rw [u_eq]
        exact (removeGrant_slot s c c j .idle).trans (if_pos rfl)
      have waits : Unqueued h u := by
        rw [u_eq, removeGrant_eq]
        exact quiet
      obtain ⟨-, still⟩ := ((acts_scanQueue u).tail (.close _ j.owner)).stillHeld waits
      obtain ⟨i, held', -⟩ := still c g (form ▸ held) own
      simp [empty] at held'
    cases state : (s.chan c).state with
    | ramping => exact discharged (.inl state)
    | on => exact discharged (.inr state)
    | checking => exact ended (.inl state)
    | holdoff => exact ended (.inr (.inl state))
    | latched => exact ended (.inr (.inr state))
    | discharging => rw [releaseGrant_of_discharging state, state]
    | idle => simp [(slots c).2 (.inl state)] at slot
    | faulted => simp [(slots c).2 (.inr state)] at slot

section Departure
variable {h : HostId} {r : Session} {n : Nat} {quit : ChanId → Prop} {s : State}

theorem Departing.releaseOwn (d : Departing h r n quit s) (slots : SlotLaw s) (c : ChanId) :
    Departing h r n (fun e => quit e ∨ e = c) (releaseOwn h s c) := by
  have after := d.acts (acts_releaseOwn h s c)
  refine { after with quits := fun e here g held own => ?_ }
  rcases here with before | rfl
  · exact after.quits e before g held own
  · unfold Sys2Proof.releaseOwn at held ⊢
    split at held
    · next mine => rw [if_pos mine]; exact discharging_releaseGrant slots d.waits .teardown held own
    · next other => simp [holds_of_slot held, own] at other

/-- The releases in turn leave the host's grants on the channels walked DISCHARGING (R34). -/
theorem Departing.releases (list : List ChanId) : ∀ {quit : ChanId → Prop} {s : State}, Departing h r n quit s → TableLaw s →
    Departing h r n (fun c => quit c ∨ c ∈ list) (list.foldl (Sys2Proof.releaseOwn h) s) := by
  induction list with
  | nil => exact fun d _ => { d with quits := fun c here => d.quits c (here.resolve_right List.not_mem_nil) }
  | cons c rest ih =>
    intro quit s d law
    have law' : TableLaw (Sys2Proof.releaseOwn h s c) := (acts_releaseOwn h s c).keeps (fun _ _ l a => tableLaw_act a l) law
    have later := ih (d.releaseOwn law.1 c) law'
    exact { later with quits := fun e here => later.quits e (by simpa [or_assoc] using here) }

/-- After the release of every grant of the host, each that it still has is DISCHARGING (R34). -/
theorem Departing.releaseAll (d : Departing h r n (fun _ => False) s) (law : TableLaw s) :
    Departing h r n (fun _ => True) (s.releaseAll (fun g => g.owner == h) .teardown) := by
  have ⟨_, ⟨_, members⟩, _⟩ := law
  have absent : Departing h r n (fun c => c ∉ s.grants.admission) s :=
    { d with quits := fun c out g held => absurd ((members c).2 (by simp [held])) out }
  have released := absent.releases s.grants.admission law
  rw [releaseAll_own]
  exact { released with quits := fun c _ => released.quits c (em' _) }

/-! ### The part in a proposal -/

/-- A proposal without the vote of host h (R155). -/
def Proposal.without (h : HostId) (p : Proposal) : Proposal :=
  { p with electorate := p.electorate.upd h fun _ => false, consents := p.consents.upd h fun _ => false }

theorem Proposal.eq_without {p q : Proposal} (same : q = { p with electorate := q.electorate, consents := q.consents })
    (electors : ∀ k, q.electorate.read k = true ↔ p.electorate.read k = true ∧ k ≠ h)
    (consents : ∀ k, q.consents.read k = true ↔ p.consents.read k = true ∧ k ≠ h) : q = Proposal.without h p := by
  have votes {old new : HostSet} (reads : ∀ k, new.read k = true ↔ old.read k = true ∧ k ≠ h) :
      new = old.upd h fun _ => false := Table.ext_read fun k => by
    rw [Bool.eq_iff_iff, reads, Table.read_upd]
    by_cases e : k = h <;> simp [e]
  rw [same, votes electors, votes consents]
  rfl

theorem consentTeardown_of_no_elector (straps : BitVec 2)
    (none : ∀ p, s.proposal = some p → p.electorate.read h = false) : s.consentTeardown straps h = s := by
  unfold State.consentTeardown
  split
  · rfl
  · next p is => exact if_pos (none p is)

theorem consentTeardown_of_proposer (straps : BitVec 2) {p : Proposal} (is : s.proposal = some p)
    (elector : p.electorate.read h = true) (own : p.proposer = h) :
    s.consentTeardown straps h = s.closeProposal p .withdrawn none := by
  simp [State.consentTeardown, is, elector, own]

theorem consentTeardown_of_elector (straps : BitVec 2) {p : Proposal} (is : s.proposal = some p)
    (elector : p.electorate.read h = true) (other : p.proposer ≠ h) :
    s.consentTeardown straps h = s.settleProposal straps (Proposal.without h p) := by
  simp [State.consentTeardown, is, elector, other, Proposal.without]

/-- A law that the closing of a proposal, an adoption and a loss of the host's votes keep, is kept by the consent unit's part in a
teardown; and it holds of the state as it stands when the host is no elector (R155). -/
theorem consentTeardown_cases {law : State → Prop} (straps : BitVec 2)
    (stays : (∀ p, s.proposal = some p → p.electorate.read h = false) → law s)
    (closes : ∀ p, law (s.closeProposal p .withdrawn none))
    (adopts : ∀ p, law (s.adoptProposal straps p))
    (loses : ∀ p, law (s.withProposal (some (Proposal.without h p)))) : law (s.consentTeardown straps h) := by
  cases is : s.proposal with
  | none =>
    have no (p : Proposal) (is' : s.proposal = some p) : p.electorate.read h = false := by simp [is] at is'
    rw [consentTeardown_of_no_elector straps no]
    exact stays no
  | some p =>
    cases elector : p.electorate.read h with
    | false =>
      have no (q : Proposal) (is' : s.proposal = some q) : q.electorate.read h = false := by
        cases is.symm.trans is'
        exact elector
      rw [consentTeardown_of_no_elector straps no]
      exact stays no
    | true =>
      by_cases own : p.proposer = h
      · rw [consentTeardown_of_proposer straps is elector own]
        exact closes p
      · rw [consentTeardown_of_elector straps is elector own, State.settleProposal]
        split
        · exact adopts _
        · exact loses p

theorem Departing.withProposal (d : Departing h r n quit s) (o : Option Proposal) : Departing h r n quit (s.withProposal o) :=
  d.of_same rfl rfl rfl rfl rfl rfl

theorem Departing.consentTeardown (d : Departing h r n quit s) (straps : BitVec 2) :
    Departing h r n quit (s.consentTeardown straps h) :=
  consentTeardown_cases straps (fun _ => d) (fun _ => (d.withProposal none).acts (acts_broadcast ..))
    (fun p => ((d.withProposal none).adopt straps p.change).acts (acts_broadcast ..)) fun _ => d.withProposal _

theorem steady_adoptProposal (s : State) (straps : BitVec 2) (p : Proposal) :
    Steady (s.withProposal none) (s.adoptProposal straps p) :=
  (steady_effects (effects_adopt (s.withProposal none) straps p.change)).trans (calm_of_quiet (acts_broadcast ..).quiet).steady

/-- After its teardown the host is no elector of an open proposal (R155). -/
theorem consentTeardown_electorate (s : State) (straps : BitVec 2) (h : HostId) {p : Proposal}
    (is : (s.consentTeardown straps h).proposal = some p) : p.electorate.read h = false := by
  revert is
  refine consentTeardown_cases (law := fun t => t.proposal = some p → p.electorate.read h = false) straps (fun no => no p)
    (fun q is => ?_) (fun q is => ?_) fun q is => ?_
  · have closed : (s.closeProposal q .withdrawn none).proposal = none := (acts_broadcast ..).quiet.proposal
    simp [closed] at is
  · have adopted : (s.adoptProposal straps q).proposal = none := (steady_adoptProposal s straps q).proposal
    simp [adopted] at is
  · cases is
    exact Table.read_upd_self ..

theorem consentTeardown_attached (s : State) (straps : BitVec 2) (h k : HostId) :
    (s.consentTeardown straps h).attached k = s.attached k :=
  consentTeardown_cases (law := fun t => t.attached k = s.attached k) straps (fun _ => rfl)
    (fun _ => (acts_broadcast ..).quiet.attached k) (fun p => (steady_adoptProposal s straps p).attached k) fun _ => rfl

/-! ### The end of the session -/

theorem countP_holds_eq_zero : allChannels.countP (s.holds h) = 0 ↔ ∀ c, s.holds h c = false := by
  simp [List.countP_eq_zero, mem_allChannels]

/-- The last step of a teardown leaves the session DETACHED with no grant left, else in CLOSING (R131, R139). -/
theorem Departing.endClosing_session (d : Departing h r n quit s) :
    (s.endClosing h).session h =
      { r with state := if allChannels.countP ((s.endClosing h).holds h) = 0 then .detached else .closing } := by
  have holds (c : ChanId) : (s.endClosing h).holds h c = s.holds h c :=
    holds_congr (by rw [endClosing_eq]; rfl) h
  simp only [countP_holds_eq_zero, holds]
  rw [Sys2Proof.endClosing_session]
  rcases d.session with closing | ⟨detached, none⟩
  · by_cases none : ∀ c, s.holds h c = false <;> simp [closing, none]
  · simp [detached, none]

end Departure

/-- The state in which a session has just closed, its outbox flushed (R131, R135, R175). -/
def justClosed (s : State) (h : HostId) (cause : CloseCause) : State :=
  { s with
    sessions := s.sessions.upd h fun r => { r with state := .closing, lease := none, lastClose := cause }
    outboxes := s.outboxes.upd h fun _ => []
    ports := s.ports.upd h fun p => { p with select := p.select.map fun x => { x with spares := true } } }

/-- The first two steps of a teardown: the host's entries out with one scan, its grants released (R34, R66, R137). -/
def emptied (s : State) (h : HostId) (cause : CloseCause) : State :=
  ((justClosed s h cause).queueTeardown h).releaseAll (fun g => g.owner == h) .teardown

theorem closeSession_eq (s : State) (straps : BitVec 2) (h : HostId) (cause : CloseCause) :
    s.closeSession straps h cause = ((emptied s h cause).consentTeardown straps h).endClosing h := rfl

section Closing
variable (s : State) (h : HostId) (cause : CloseCause)

theorem justClosed_session :
    (justClosed s h cause).session h = { s.session h with state := .closing, lease := none, lastClose := cause } :=
  Table.read_upd_self ..

theorem acts_emptied : Acts (justClosed s h cause) (emptied s h cause) := (acts_queueTeardown ..).trans (acts_releaseAll ..)

theorem emptied_proposal : (emptied s h cause).proposal = s.proposal := (acts_emptied s h cause).quiet.proposal

/-- A host whose session has closed departs once its entries are out (R66). -/
theorem departing_queueTeardown :
    Departing h { s.session h with lease := none, lastClose := cause } s.now (fun _ => False)
      ((justClosed s h cause).queueTeardown h) := by
  have dropped {t : State} (out : t = (justClosed s h cause).dropEntries (·.host == h)) :
      Departing h { s.session h with lease := none, lastClose := cause } s.now (fun _ => False) t := by
    have entries : t.queue.entries = s.queue.entries.filter fun e => !(e.host == h) := by
      rw [out, State.dropEntries, State.setEntries_entries]
      rfl
    rw [State.dropEntries, State.setEntries_eq] at out
    refine ⟨by rw [out]; rfl, fun e m => ?_, ?_, .inl ?_, fun _ here => here.elim⟩
    · rw [entries] at m
      simpa using (List.mem_filter.1 m).2
    · rw [out]
      exact Table.read_upd_self ..
    · rw [out]
      exact justClosed_session s h cause
  unfold State.queueTeardown
  split
  · exact (dropped rfl).acts (acts_scanQueue _)
  · next absent =>
    have kept : ((justClosed s h cause).queue.entries.filter fun e => !(e.host == h)) = (justClosed s h cause).queue.entries :=
      List.filter_eq_self.2 fun e m => by
        simpa using fun own : e.host = h => absent (List.any_eq_true.2 ⟨e, m, by simp [own]⟩)
    refine dropped ?_
    rw [State.dropEntries, kept, setEntries_self]

theorem departing_emptied (law : TableLaw s) :
    Departing h { s.session h with lease := none, lastClose := cause } s.now (fun _ => True) (emptied s h cause) := by
  have closed : TableLaw (justClosed s h cause) := law
  have lawT : TableLaw ((justClosed s h cause).queueTeardown h) :=
    (acts_queueTeardown ..).keeps (fun _ _ l a => tableLaw_act a l) closed
  exact (departing_queueTeardown s h cause).releaseAll lawT

variable (straps : BitVec 2)

theorem departing_closeSession (law : TableLaw s) :
    Departing h { s.session h with lease := none, lastClose := cause } s.now (fun _ => True) (s.closeSession straps h cause) :=
  ((departing_emptied s h cause law).consentTeardown straps).act (.close ..)

/-- The session of the host closed: DETACHED with no grant left, else in CLOSING, its epoch kept (R131, R135, R139). -/
theorem closeSession_session (law : TableLaw s) :
    (s.closeSession straps h cause).session h =
      { state := if allChannels.countP ((s.closeSession straps h cause).holds h) = 0 then .detached else .closing,
        epoch := (s.session h).epoch, lease := none, lastClose := cause } :=
  ((departing_emptied s h cause law).consentTeardown straps).endClosing_session

theorem closeSession_electorate {p : Proposal} (is : (s.closeSession straps h cause).proposal = some p) :
    p.electorate.read h = false := by
  rw [closeSession_eq, endClosing_eq] at is
  exact consentTeardown_electorate _ straps h is

/-- Another host's standing is as it was. -/
theorem closeSession_attached {k : HostId} (other : k ≠ h) :
    (s.closeSession straps h cause).attached k = s.attached k := by
  rw [closeSession_eq, (quiet_endClosing ..).attached, consentTeardown_attached, (acts_emptied s h cause).quiet.attached]
  refine (attached_closing s h k cause).trans ?_
  simp [other]

end Closing

/-! ### The claim -/

/-- The two rows that close a session. -/
theorem exec_detach {s : State} {h : HostId} {f : Frame} (n : Served .detach s h f) (straps : BitVec 2) :
    exec (.detach straps) s = .next
      (if f.body = [] then
        let u := (taken s h).closeSession straps h .detached
        u.respond h f (.detach (u.session h).epoch (u.session h).state (u.grantsOf h))
      else refusedWith s h f .badValue) :=
  congrArg _ (taking_served n (handleDetach straps))

theorem exec_leaseExpiry {s : State} {h : HostId} {e : Nat} (att : s.attached h = true) (lease : (s.session h).lease = some e)
    (straps : BitVec 2) : exec (.leaseExpiry h straps) s = .next ((s.reach e).closeSession straps h .expired) := by
  simp only [exec, execLeaseExpiry, att, lease, if_true]

/-- Settles O41: both rows close the session of the state in which they find it, and the teardown's four steps leave of the host
what the statement says. -/
theorem closingASessionTearsTheHostDown : Obligations.ClosingASessionTearsTheHostDown := by
  intro s h law att Closed Torn
  have torn (straps : BitVec 2) (cause : CloseCause) {b : State} (same : b.proposal = s.proposal) :
      Torn straps cause b (b.closeSession straps h cause) := by
    have proposal : (emptied b h cause).proposal = s.proposal := (emptied_proposal b h cause).trans same
    refine ⟨justClosed b h cause, emptied b h cause, (emptied b h cause).consentTeardown straps h, rfl, rfl, rfl,
      fun no => ?outside, fun p is elector => ⟨fun own => ?proposer, fun other r votes electors consents => ?elector⟩⟩
    case outside => exact consentTeardown_of_no_elector straps (proposal ▸ no)
    case proposer =>
      rw [consentTeardown_of_proposer straps (proposal.trans is) elector own]
      exact broadcast_broadcast ..
    case elector =>
      obtain rfl := Proposal.eq_without votes electors consents
      rw [consentTeardown_of_elector straps (proposal.trans is) elector other, State.settleProposal]
      refine ⟨fun short => if_neg short, fun all => ?_⟩
      rw [if_pos all]
      exact broadcast_broadcast ..
  have closed (straps : BitVec 2) (cause : CloseCause) {b : State} (table : TableLaw b)
      (epoch : (b.session h).epoch = (s.session h).epoch) (standing : ∀ k, b.attached k = s.attached k) :
      Closed cause (allChannels.countP ((b.closeSession straps h cause).holds h)) (b.closeSession straps h cause) := by
    have gone := departing_closeSession b h cause straps table
    refine ⟨?_, rfl, fun c g => gone.quits c trivial g, gone.waits, fun p => closeSession_electorate b h cause straps,
      fun k other => (closeSession_attached b h cause straps other).trans (standing k)⟩
    rw [closeSession_session b h cause straps table, epoch]
  refine ⟨fun f straps n body => ?detach, fun f straps n body => ?refused, fun e straps lease => ?expiry⟩
  case detach =>
    have done := closed straps .detached (b := taken s h) law (taken_epoch s h h) (taken_attached s h)
    have gone := departing_closeSession (taken s h) h .detached straps law
    have tornU := torn straps .detached (b := taken s h) rfl
    have row := (exec_detach n straps).trans (congrArg _ (if_pos body))
    generalize (taken s h).closeSession straps h .detached = u at done gone tornU row
    have session := done.1
    refine ⟨u, _, _, tornU, rfl, row, done, ?_⟩
    rw [State.respond, State.withOutbox_outbox, if_pos rfl, gone.outbox, session]
    rfl
  case refused => exact (exec_detach n straps).trans (congrArg _ (if_neg body))
  case expiry =>
    have gone := departing_closeSession (s.reach e) h .expired straps law
    exact ⟨_, _, exec_leaseExpiry att lease straps, torn straps .expired (b := s.reach e) rfl,
      closed straps .expired (b := s.reach e) law rfl (fun _ => rfl), gone.outbox, gone.now⟩

end Sys2Proof
end

section
/-! The place of an entry in the wait queue (R41): where it goes, and what its coming and going leave of the others. -/

namespace Sys2Proof

open Machine

/-! ### The place -/

/-- The entry stands between those of equal or higher priority and those of lower. -/
theorem placeEntry_split (e : WaitEntry) (es : List WaitEntry) : ∃ ahead behind,
    es = ahead ++ behind ∧ placeEntry e es = ahead ++ e :: behind ∧ (∀ y ∈ behind, y.priority < e.priority) ∧
      (ahead = [] ∨ ∃ z, ahead.getLast? = some z ∧ e.priority ≤ z.priority) := by
  induction es with
  | nil => exact ⟨[], [], rfl, rfl, fun _ m => absurd m List.not_mem_nil, .inl rfl⟩
  | cons x rest ih =>
    rw [placeEntry]
    split
    · next lower => exact ⟨[], x :: rest, rfl, rfl, by simpa using lower, .inl rfl⟩
    · next higher =>
      obtain ⟨ahead, behind, split, placed, low, last⟩ := ih
      refine ⟨x :: ahead, behind, by rw [split]; rfl, by rw [placed]; rfl, low, .inr ?_⟩
      rcases last with rfl | ⟨z, last, le⟩
      · refine ⟨x, rfl, Nat.le_of_not_lt fun lt => higher ?_⟩
        rw [List.nil_append] at split
        simpa [split] using ⟨lt, low⟩
      · exact ⟨z, by simp [List.getLast?_cons, last], le⟩

/-- Settles O23: by induction along the queue. -/
theorem placementFollowsPriorityThenArrival : Obligations.PlacementFollowsPriorityThenArrival := placeEntry_split

/-- A queue with an entry placed holds what it held, and the entry. -/
theorem placeEntry_perm (e : WaitEntry) (es : List WaitEntry) : (placeEntry e es).Perm (e :: es) := by
  obtain ⟨ahead, behind, rfl, placed, -⟩ := placeEntry_split e es
  rw [placed]
  exact List.perm_middle

/-- A new entry placed and taken out again leaves the queue as it was. -/
theorem erase_placeEntry {e : WaitEntry} {es : List WaitEntry} (new : e ∉ es) : (placeEntry e es).erase e = es := by
  obtain ⟨ahead, behind, rfl, placed, -⟩ := placeEntry_split e es
  rw [placed, List.erase_append_right _ fun m => new (List.mem_append_left _ m), List.erase_cons_head]

/-- A placing keeps the order of priority (R41). -/
theorem sorted_placeEntry {e : WaitEntry} {es : List WaitEntry} (sorted : es.Pairwise fun a b => b.priority ≤ a.priority) :
    (placeEntry e es).Pairwise fun a b => b.priority ≤ a.priority := by
  obtain ⟨ahead, behind, rfl, placed, low, last⟩ := placeEntry_split e es
  obtain ⟨sortedA, sortedB, across⟩ := List.pairwise_append.1 sorted
  have high : ∀ x ∈ ahead, e.priority ≤ x.priority := by
    rcases last with rfl | ⟨z, last, le⟩
    · exact fun _ m => absurd m List.not_mem_nil
    · obtain ⟨front, rfl⟩ := List.getLast?_eq_some_iff.1 last
      intro x m
      rcases List.mem_append.1 m with m | m
      · exact le.trans ((List.pairwise_append.1 sortedA).2.2 x m z (List.mem_singleton_self z))
      · rwa [List.mem_singleton.1 m]
  rw [placed]
  refine List.pairwise_append.2 ⟨sortedA, List.pairwise_cons.2 ⟨fun y m => (low y m).le, sortedB⟩, fun x m y m' => ?_⟩
  rcases List.mem_cons.1 m' with rfl | m'
  · exact high x m
  · exact across x m y m'

theorem place_entries (s : State) (e : WaitEntry) : (s.place e).queue.entries = placeEntry e s.queue.entries :=
  State.setEntries_entries ..

theorem takeOut_entries (s : State) (e : WaitEntry) : (s.takeOut e).queue.entries = s.queue.entries.erase e :=
  State.setEntries_entries ..

/-- What is left of a queue with an entry placed, once that entry is out, waited before. -/
theorem sublist_of_placed {e : WaitEntry} {es now : List WaitEntry} (new : e ∉ es) (sub : now.Sublist (placeEntry e es)) :
    (now.erase e).Sublist es := by
  have out := sub.erase e
  rwa [erase_placeEntry new] at out

end Sys2Proof
end

section
/-! The scan of a CLAIM's event (R45 to R48): the walk reaches the entry of the claim or stops short of it, and what comes of a
claim that waits or does not. -/

namespace Sys2Proof

open Machine

/-! ### The walk -/

/-- What a walk leaves: grants and channels taken, budget drawn, entries gone. -/
structure Walked (s t : State) : Prop where
  keeps : KeepsTaken s t
  drawn : Drawn s t
  entries : t.queue.entries.Sublist s.queue.entries

theorem Walked.refl (s : State) : Walked s s := ⟨.refl s, .refl s, .refl _⟩

theorem Walked.trans {s t u : State} (h : Walked s t) (k : Walked t u) : Walked s u :=
  ⟨h.keeps.trans k.keeps, h.drawn.trans k.drawn, k.entries.trans h.entries⟩

theorem walked_admitEntry {s : State} {e : WaitEntry} (adm : s.admissible e = true) : Walked s (s.admitEntry e).1 :=
  ⟨keepsTaken_admitEntry adm, drawn_admit .., by rw [State.admit_entries]; exact List.erase_sublist⟩

theorem walked_post (s : State) (h : HostId) (n : Notice) : Walked s (s.post h n) :=
  ⟨keepsTaken_post .., drawn_post .., by rw [State.post_queue]⟩

theorem walked_scanWalk (claim : Option (HostId × Byte)) (todo : List WaitEntry) (flag : Bool) (s : State) (fate : Fate) :
    Walked s (scanWalk claim todo flag (s, fate)).1 :=
  scanWalk_relates .refl .trans (fun _ _ => walked_admitEntry) walked_post ..

/-- A walk past entries of other keys leaves an entry where it is. -/
theorem mem_scanWalk {claim : Option (HostId × Byte)} {e : WaitEntry} (todo : List WaitEntry) : ∀ (flag : Bool) {s : State}
    {fate : Fate}, e ∉ todo → e ∈ s.queue.entries → e ∈ (scanWalk claim todo flag (s, fate)).1.queue.entries := by
  induction todo with
  | nil => exact fun _ _ _ _ waits => waits
  | cons x rest ih =>
    intro flag s fate out waits
    obtain ⟨ne, out⟩ := not_or.1 (mt List.mem_cons.2 out)
    have stays : e ∈ (s.admitEntry x).1.queue.entries := by
      rw [State.admit_entries]
      exact (List.mem_erase_of_ne ne).2 waits
    rw [scanWalk]
    split
    · exact waits
    · split
      · dsimp only
        split
        · exact ih _ out stays
        · exact ih _ out (by rwa [State.post_queue])
      · exact ih _ out waits

/-- A walk past entries of other keys leaves the fate of the claim. -/
theorem fate_scanWalk {key : HostId × Byte} (todo : List WaitEntry) : ∀ (flag : Bool) (s : State) (fate : Fate),
    (∀ x ∈ todo, x.key ≠ key) → (scanWalk (some key) todo flag (s, fate)).2 = fate := by
  induction todo with
  | nil => exact fun _ _ _ _ => rfl
  | cons x rest ih =>
    intro flag s fate others
    have other : ¬ some key = some x.key := fun same => others x List.mem_cons_self (Option.some.inj same).symm
    have later : ∀ y ∈ rest, y.key ≠ key := fun y m => others y (List.mem_cons_of_mem _ m)
    rw [scanWalk]
    split
    · rfl
    · split
      · exact ih _ _ _ later
      · exact ih _ _ _ later

/-- What a scan did with the claim whose entry is `e`: admitted it, at some moment of the walk; or left it waiting, examined, or
behind a head that blocks (R47, R48, R50). -/
inductive Came (s : State) (e : WaitEntry) : State × Fate → Prop where
  | admitted (v u : State) (before : Walked s v) (adm : v.admissible e = true) (after : Walked (v.admitEntry e).1 u) :
      Came s e (u, .admitted (v.admitEntry e).2)
  | passedOver (u : State) (waits : e ∈ u.queue.entries) : Came s e (u, .passedOver)
  | unseen (u : State) (waits : e ∈ u.queue.entries) (blocks : u.queue.headBlocking = true) : Came s e (u, .unseen)

theorem Came.mono {s t : State} {e : WaitEntry} {r : State × Fate} (first : Walked s t) (c : Came t e r) : Came s e r := by
  cases c with
  | admitted v u before adm after => exact .admitted v u (first.trans before) adm after
  | passedOver u waits => exact .passedOver u waits
  | unseen u waits blocks => exact .unseen u waits blocks

/-- The walk as it reaches the entry of the claim. -/
theorem came_of_reached {s : State} {e : WaitEntry} {back : List WaitEntry} (flag : Bool)
    (others : ∀ x ∈ back, x.key ≠ e.key) (waits : e ∈ s.queue.entries) :
    Came s e (scanWalk (some e.key) (e :: back) flag (s, .unseen)) := by
  have gone : e ∉ back := fun m => others e m rfl
  rw [scanWalk]
  split
  · next stop => exact .unseen s waits (Bool.and_eq_true_iff.1 stop).2
  · split
    · next adm =>
      rw [if_pos rfl]
      have fate := fate_scanWalk back flag (s.admitEntry e).1 (.admitted (s.admitEntry e).2) others
      have after := walked_scanWalk (some e.key) back flag (s.admitEntry e).1 (.admitted (s.admitEntry e).2)
      generalize scanWalk (some e.key) back flag _ = r at fate after
      obtain ⟨u, f⟩ := r
      obtain rfl : f = _ := fate
      exact .admitted s u (.refl s) adm after
    · rw [if_pos rfl]
      have fate := fate_scanWalk back true s .passedOver others
      have stays := mem_scanWalk (claim := some e.key) (fate := .passedOver) back true gone waits
      generalize scanWalk (some e.key) back true (s, .passedOver) = r at fate stays
      obtain ⟨u, f⟩ := r
      obtain rfl : f = _ := fate
      exact .passedOver u stays

/-- The walk past the entries before it, none of which has its key. -/
theorem came_scanWalk {e : WaitEntry} {back : List WaitEntry} (behind : ∀ x ∈ back, x.key ≠ e.key) (front : List WaitEntry) :
    ∀ (flag : Bool) {s : State}, (∀ x ∈ front, x.key ≠ e.key) → e ∈ s.queue.entries →
      Came s e (scanWalk (some e.key) (front ++ e :: back) flag (s, .unseen)) := by
  induction front with
  | nil => exact fun flag _ _ => came_of_reached flag behind
  | cons x rest ih =>
    intro flag s others waits
    have here := others x List.mem_cons_self
    have other : ¬ some e.key = some x.key := fun same => here (Option.some.inj same).symm
    have later : ∀ y ∈ rest, y.key ≠ e.key := fun y m => others y (List.mem_cons_of_mem _ m)
    rw [List.cons_append, scanWalk]
    split
    · next stop => exact .unseen s waits (Bool.and_eq_true_iff.1 stop).2
    · split
      · next adm =>
        have walked := (walked_admitEntry adm).trans (walked_post _ x.host (.claimAdmitted x.tag (s.admitEntry x).2))
        refine .mono walked (ih flag later ?_)
        rw [State.post_queue, State.admit_entries]
        exact (List.mem_erase_of_ne fun same => here (by rw [same])).2 waits
      · exact ih true later waits

/-- The scan for a claim whose entry has just been placed, with no other of its key waiting (R44, R47). -/
theorem came_scanFor {s t : State} {e : WaitEntry} (fresh : ∀ x ∈ s.queue.entries, x.key ≠ e.key)
    (placed : t.queue.entries = placeEntry e s.queue.entries) : Came t e (t.scanFor e.host e.tag) := by
  obtain ⟨ahead, behind, split, at', -⟩ := placeEntry_split e s.queue.entries
  rw [split] at fresh
  have entries : t.queue.entries = ahead ++ e :: behind := placed.trans at'
  rw [State.scanFor, entries]
  refine came_scanWalk (fun x m => fresh x (List.mem_append_right _ m)) ahead false
    (fun x m => fresh x (List.mem_append_left _ m)) ?_
  rw [entries]
  exact List.mem_append_right _ List.mem_cons_self

/-- The grants of an entry admitted stand after the walk, one for each item (R23, R47). -/
theorem slot_of_admitted {v u : State} {e : WaitEntry} (distinct : (e.items.map Item.channel).Nodup)
    (after : Walked (v.admitEntry e).1 u) {i : Item} (m : i ∈ e.items) : ∃ g, u.slot i.channel = some g ∧
      g.number ∈ (v.admitEntry e).2 ∧ g.owner = e.host ∧ g.tag = e.tag ∧ g.amount = i.amount ∧ g.priority = e.priority := by
  obtain ⟨k, hk, rfl⟩ := List.mem_iff_getElem.1 m
  have numbers : k < (v.createGrants e e.items).2.length := by rwa [createGrants_length]
  obtain ⟨slot, -⟩ := entered_createGrants e e.items (s := v) distinct k hk numbers
  have slot' : (v.admitEntry e).1.slot e.items[k].channel = (v.createGrants e e.items).1.slot e.items[k].channel := by
    rw [admitEntry_eq]
    rfl
  refine ⟨_, after.keeps.slot_of_some (slot'.trans slot), ?_, rfl, rfl, rfl, rfl⟩
  exact List.getElem_mem numbers

/-- An entry admitted waits no more. -/
theorem not_mem_of_admitted {s v u : State} {e : WaitEntry} (new : e ∉ s.queue.entries)
    (placed : v.queue.entries.Sublist (placeEntry e s.queue.entries)) (after : Walked (v.admitEntry e).1 u) :
    e ∉ u.queue.entries := fun m => by
  have waits := after.entries.subset m
  rw [State.admit_entries] at waits
  exact new ((sublist_of_placed new placed).subset waits)

end Sys2Proof
end

section
/-! The body of a CLAIM (R43, R189): the fields where the bytes put them, the ranges they are held to, and the layout read back. -/

namespace Sys2Proof

open Machine

/-! ### The items -/

/-- The channel of item k in the bytes after the item count. -/
def channelAt (bytes : List Byte) (k : Nat) : Nat := (bytes.getD (3 * k) 0#8).toNat

/-- The amount of item k in the bytes after the item count. -/
def amountAt (bytes : List Byte) (k : Nat) : Nat := word2 (bytes.getD (3 * k + 1) 0#8) (bytes.getD (3 * k + 2) 0#8)

/-- The first n items of some bytes. -/
def itemsAt (n : Nat) (bytes : List Byte) : List (Nat × Nat) := (List.range n).map fun k => (channelAt bytes k, amountAt bytes k)

theorem itemsAt_succ (n : Nat) (c hi lo : Byte) (rest : List Byte) :
    itemsAt (n + 1) (c :: hi :: lo :: rest) = (c.toNat, word2 hi lo) :: itemsAt n rest := by
  rw [itemsAt, List.range_succ_eq_map, List.map_cons, List.map_map]
  rfl

/-- Items are read where they lie, three bytes each (R43). -/
theorem readItems_eq (n : Nat) : ∀ bytes : List Byte,
    readItems n bytes = if bytes.length = 3 * n then some (itemsAt n bytes) else none := by
  induction n with
  | zero => intro bytes; cases bytes <;> simp [readItems, itemsAt]
  | succ n ih =>
    intro bytes
    match bytes with
    | [] | [_] | [_, _] => rw [if_neg (by simp only [List.length_cons, List.length_nil]; omega)]; rfl
    | c :: hi :: lo :: rest =>
      have length : (c :: hi :: lo :: rest).length = 3 * (n + 1) ↔ rest.length = 3 * n := by
        simp only [List.length_cons]
        omega
      rw [readItems, ih, itemsAt_succ]
      by_cases agrees : rest.length = 3 * n
      · rw [if_pos agrees, if_pos (length.2 agrees)]
        rfl
      · rw [if_neg agrees, if_neg (mt length.1 agrees)]
        rfl

/-- Items have their channels unless one of them is above 7. -/
theorem rawItems_eq_none {raw : List (Nat × Nat)} : rawItems raw = none ↔ ∃ x ∈ raw, 7 < x.1 := by
  induction raw with
  | nil => simp [rawItems]
  | cons x rest ih =>
    obtain ⟨c, a⟩ := x
    rw [rawItems, List.exists_mem_cons_iff, ← ih]
    by_cases low : c < 8
    · have chan : channelOf c = some ⟨c, low⟩ := dif_pos low
      have here : ¬ 7 < c := by omega
      cases rawItems rest <;> simp [chan, here]
    · have chan : channelOf c = none := dif_neg low
      have here : 7 < c := by omega
      simp [chan, here]

/-! ### The fields -/

/-- The ranges of R44's first line, of the bytes of a body after its length has been found to agree with its item count. -/
structure InClaimRange (p m n : Byte) (rest : List Byte) : Prop where
  length : rest.length = 3 * n.toNat
  count : 1 ≤ n.toNat ∧ n.toNat ≤ 4
  priority : p.toNat ≤ 7
  mode : m.toNat ≤ 1
  amounts : ∀ k, k < n.toNat → 1 ≤ amountAt rest k ∧ amountAt rest k ≤ 40000
  distinct : ∀ j k, j < k → k < n.toNat → channelAt rest j ≠ channelAt rest k

theorem inRange_iff (p m hi lo n : Byte) (rest : List Byte) :
    RawClaim.inRange
        { priority := p.toNat, mode := m.toNat, deadline := word2 hi lo, items := itemsAt n.toNat rest } = true ∧
      rest.length = 3 * n.toNat ↔ InClaimRange p m n rest := by
  have amounts : (∀ i ∈ itemsAt n.toNat rest, 1 ≤ i.2 ∧ i.2 ≤ Config.amountMax) ↔
      ∀ k, k < n.toNat → 1 ≤ amountAt rest k ∧ amountAt rest k ≤ 40000 := by
    simp [itemsAt, Config.amountMax]
  have distinct : ((itemsAt n.toNat rest).map Prod.fst).Nodup ↔
      ∀ j k, j < k → k < n.toNat → channelAt rest j ≠ channelAt rest k := by
    rw [List.Nodup, List.pairwise_iff_getElem]
    simp only [itemsAt, List.length_map, List.length_range, List.getElem_map, List.getElem_range]
    exact ⟨fun h j k lt hk => h j k (lt.trans hk) hk lt, fun h j k _ hk lt => h j k lt hk⟩
  have count : (itemsAt n.toNat rest).length = n.toNat := by simp [itemsAt]
  simp only [RawClaim.inRange, Bool.and_eq_true, decide_eq_true_eq, List.all_eq_true, amounts, distinct, count]
  constructor
  · rintro ⟨⟨⟨⟨⟨count, priority⟩, mode⟩, amounts⟩, distinct⟩, length⟩
    exact ⟨length, count, priority, mode, amounts, distinct⟩
  · intro r
    exact ⟨⟨⟨⟨⟨r.count, r.priority⟩, r.mode⟩, r.amounts⟩, r.distinct⟩, r.length⟩

section Fields
variable {p m hi lo n : Byte} {rest : List Byte}

theorem readClaim_of_length (length : rest.length = 3 * n.toNat) :
    readClaim (p :: m :: hi :: lo :: n :: rest) =
      some { priority := p.toNat, mode := m.toNat, deadline := word2 hi lo, items := itemsAt n.toNat rest } := by
  rw [readClaim, readItems_eq, if_pos length]
  rfl

theorem claimFields_of_short {body : List Byte} (short : body.length < 5) : claimFields body = .error .badValue := by
  match body with
  | [] | [_] | [_, _] | [_, _, _] | [_, _, _, _] => rfl
  | _ :: _ :: _ :: _ :: _ :: _ => simp only [List.length_cons] at short; omega

theorem claimFields_of_out (out : ¬ InClaimRange p m n rest) :
    claimFields (p :: m :: hi :: lo :: n :: rest) = .error .badValue := by
  by_cases length : rest.length = 3 * n.toNat
  · rw [claimFields, readClaim_of_length length]
    exact if_neg fun range => out ((inRange_iff p m hi lo n rest).1 ⟨range, length⟩)
  · rw [claimFields, readClaim, readItems_eq, if_neg length]
    rfl

theorem claimFields_of_range (range : InClaimRange p m n rest) :
    claimFields (p :: m :: hi :: lo :: n :: rest) =
      (rawItems (itemsAt n.toNat rest)).elim (.error .badChannel) fun items =>
        .ok { priority := p.toNat, waits := m.toNat == 1,
              deadline := if m.toNat = 1 ∧ word2 hi lo ≠ 0 then some (word2 hi lo) else none, items := items } := by
  rw [claimFields, readClaim_of_length range.length]
  dsimp only
  rw [if_pos ((inRange_iff p m hi lo n rest).2 range).1]
  cases rawItems (itemsAt n.toNat rest) <;> rfl

theorem exists_mem_itemsAt {k : Nat} : (∃ x ∈ itemsAt k rest, 7 < x.1) ↔ ∃ j, j < k ∧ 7 < channelAt rest j := by
  simp [itemsAt]

theorem claimFields_of_high (range : InClaimRange p m n rest) (high : ∃ k, k < n.toNat ∧ 7 < channelAt rest k) :
    claimFields (p :: m :: hi :: lo :: n :: rest) = .error .badChannel := by
  rw [claimFields_of_range range, rawItems_eq_none.2 (exists_mem_itemsAt.2 high)]
  rfl

theorem claimFields_of_low (range : InClaimRange p m n rest) (low : ∀ k, k < n.toNat → channelAt rest k ≤ 7) :
    ∃ cl, claimFields (p :: m :: hi :: lo :: n :: rest) = .ok cl ∧ cl.priority = p.toNat ∧ cl.waits = (m.toNat == 1) ∧
      cl.deadline = (if m.toNat = 1 ∧ word2 hi lo ≠ 0 then some (word2 hi lo) else none) ∧
      cl.items.map (fun i => (i.channel.val, i.amount)) = itemsAt n.toNat rest := by
  rw [claimFields_of_range range]
  cases read : rawItems (itemsAt n.toNat rest) with
  | none =>
    obtain ⟨k, lt, high⟩ := exists_mem_itemsAt.1 (rawItems_eq_none.1 read)
    exact absurd (low k lt) (Nat.not_le.2 high)
  | some items => exact ⟨_, rfl, rfl, rfl, rfl, rawItems_eq read⟩

end Fields

/-! ### The layout read back -/

/-- The fields of a claim as its bytes carry them (R43). -/
def Machine.Claim.raw (cl : Claim) : RawClaim where
  priority := cl.priority
  mode := cl.waits.toNat
  deadline := cl.deadline.getD 0
  items := cl.items.map fun i => (i.channel.val, i.amount)

/-- The bytes laid out are read as the fields they carry. -/
theorem readClaim_layout {cl : Claim} (priority : cl.priority ≤ 7) (most : cl.items.length ≤ 4)
    (amounts : ∀ i ∈ cl.items, i.amount ≤ 65535) (deadline : cl.deadline.getD 0 ≤ 65535) :
    readClaim (byte1 cl.priority ++ flag cl.waits ++ byte2 (cl.deadline.getD 0) ++ byte1 cl.items.length ++
      itemBytes cl.items) = some cl.raw := by
  have count : (BitVec.ofNat 8 cl.items.length).toNat = cl.items.length := toNat_byte _ (by omega)
  have prio : (BitVec.ofNat 8 cl.priority).toNat = cl.priority := toNat_byte _ (by omega)
  have mode : (BitVec.ofNat 8 cl.waits.toNat).toNat = cl.waits.toNat := toNat_byte _ (by cases cl.waits <;> decide)
  have window := word2_byte2 _ deadline
  simp only [byte1, flag, byte2, List.cons_append, List.nil_append, readClaim]
  rw [count, readItems_itemBytes cl.items amounts, prio, mode, window]
  rfl

/-- Settles O22: the bytes are read as the fields they carry, those lie in R43's ranges, and each channel and the deadline come
back from theirs. -/
theorem claimBodyReadsBack : Obligations.ClaimBodyReadsBack := by
  intro cl priority least most distinct amounts deadline
  have window : cl.deadline.getD 0 ≤ 65535 := by
    cases is : cl.deadline with
    | none => decide
    | some d => exact (deadline d is).2.1
  have range : cl.raw.inRange = true := by
    have apart : (cl.items.map fun i => i.channel.val).Nodup := by
      have := distinct.map Fin.val_injective
      rwa [List.map_map] at this
    have mode : cl.waits.toNat ≤ 1 := by cases cl.waits <;> decide
    simp only [RawClaim.inRange, Machine.Claim.raw, List.length_map, List.map_map, List.all_map, Function.comp_def,
      List.all_eq_true, Bool.and_eq_true, decide_eq_true_eq]
    exact ⟨⟨⟨⟨⟨least, most⟩, decide_eq_true priority⟩, decide_eq_true mode⟩, amounts⟩, apart⟩
  have waits : (cl.waits.toNat == 1) = cl.waits := by cases cl.waits <;> rfl
  rw [claimFields, readClaim_layout priority most (fun i m => (amounts i m).2.trans (by decide)) window]
  dsimp only
  rw [if_pos range]
  simp only [Machine.Claim.raw, rawItems_map, waits]
  obtain ⟨_, wait, due, _⟩ := cl
  cases due with
  | none => simp
  | some d =>
    obtain ⟨positive, -, waiting⟩ := deadline d rfl
    obtain rfl : wait = true := waiting
    simp [Nat.ne_of_gt positive]

end Sys2Proof
end

section
/-! CLAIM: the checks in their order (R43 to R45), a claim that waits and one that does not (R45 to R48). -/

namespace Sys2Proof

open Machine

/-! ### The checks -/

theorem exec_claim {s : State} {h : HostId} {f : Frame} (n : Served .claim s h f) :
    exec .claim s = .next (handleClaim h f (taken s h)) := congrArg _ (taking_served n handleClaim)

theorem exec_claim_of_error {s : State} {h : HostId} {f : Frame} {r : Reason} (n : Served .claim s h f)
    (read : claimFields f.body = .error r) : exec .claim s = .next (refusedWith s h f r) := by
  rw [exec_claim n, handleClaim, read]
  rfl

theorem exec_claim_of_refusal {s : State} {h : HostId} {f : Frame} {cl : Claim} {r : Reason} (n : Served .claim s h f)
    (read : claimFields f.body = .ok cl) (refusal : s.claimRefusal h f.tag cl = some r) :
    exec .claim s = .next (refusedWith s h f r) := by
  have refusal' : (taken s h).claimRefusal h f.tag cl = some r := refusal
  rw [exec_claim n, handleClaim, read]
  dsimp only
  rw [refusal']
  rfl

/-- A claim that a waiting entry of its host already stands for, by its tag or a channel (R44). -/
def Duplicates (s : State) (h : HostId) (tag : Byte) (cl : Claim) : Prop :=
  ∃ e ∈ s.queue.entries, e.host = h ∧ (e.tag = tag ∨ ∃ i ∈ cl.items, e.names i.channel = true)

open Classical in
/-- The checks of R44 after the bytes, in its order. -/
theorem claimRefusal_eq (s : State) (h : HostId) (tag : Byte) (cl : Claim) :
    s.claimRefusal h tag cl =
      if ∃ i ∈ cl.items, (s.settings i.channel).ceiling < i.amount then some .overCeiling
      else if ∃ i ∈ cl.items, (s.chan i.channel).state = .faulted then some .channelFaulted
      else if ∃ i ∈ cl.items, s.holds h i.channel = true then some .alreadyHeld
      else if Duplicates s h tag cl then some .duplicate
      else if s.cap h < (cl.items.map Item.amount).sum then some .overHostCap
      else none := by
  simp only [State.claimRefusal, List.any_eq_true, decide_eq_true_eq, beq_iff_eq, Bool.and_eq_true, Bool.or_eq_true,
    Duplicates]
  congr

/-- A claim that passes every check (R44). -/
theorem claimRefusal_eq_none {s : State} {h : HostId} {tag : Byte} {cl : Claim} (passed : s.claimRefusal h tag cl = none) :
    (∀ i ∈ cl.items, s.holds h i.channel = false ∧ (s.chan i.channel).state ≠ .faulted) ∧ ¬ Duplicates s h tag cl := by
  rw [claimRefusal_eq] at passed
  split_ifs at passed with ceiling faulted held duplicate cap
  exact ⟨fun i m => ⟨by simpa using fun holds => held ⟨i, m, holds⟩, fun state => faulted ⟨i, m, state⟩⟩, duplicate⟩

theorem queueFull_eq_true {s : State} {h : HostId} :
    s.queueFull h = true ↔ 12 ≤ s.queue.entries.length ∨ 4 ≤ s.queue.entries.countP (·.host == h) := by
  simp only [State.queueFull, Bool.or_eq_true, decide_eq_true_eq]
  rfl

theorem claimWait_of_full {s : State} {h : HostId} {f : Frame} {cl : Claim} (full : s.queueFull h = true) :
    s.claimWait h f cl = s.refuse h f .queueFull := if_pos full

/-- What R44's first line refuses, as the statement lists it. -/
def BadClaim (p m n : Byte) (rest : List Byte) : Prop :=
  rest.length ≠ 3 * n.toNat ∨ n.toNat = 0 ∨ 4 < n.toNat ∨ 7 < p.toNat ∨ 1 < m.toNat ∨
    (∃ k, k < n.toNat ∧ (amountAt rest k = 0 ∨ 40000 < amountAt rest k)) ∨
    ∃ j k, j < k ∧ k < n.toNat ∧ channelAt rest j = channelAt rest k

theorem badClaim_iff {p m n : Byte} {rest : List Byte} : BadClaim p m n rest ↔ ¬ InClaimRange p m n rest := by
  constructor
  · rintro bad ⟨length, ⟨least, most⟩, priority, mode, amounts, distinct⟩
    rcases bad with bad | bad | bad | bad | bad | ⟨k, lt, bad⟩ | ⟨j, k, lt, lt', same⟩
    · exact bad length
    · omega
    · omega
    · omega
    · omega
    · have := amounts k lt
      omega
    · exact distinct j k lt lt' same
  · intro out
    by_contra good
    simp only [BadClaim, not_or, not_exists, not_and, not_not] at good
    obtain ⟨length, some, few, priority, mode, amounts, distinct⟩ := good
    refine out ⟨length, ⟨Nat.one_le_iff_ne_zero.2 some, Nat.le_of_not_lt few⟩, Nat.le_of_not_lt priority,
      Nat.le_of_not_lt mode, fun k lt => ?_, distinct⟩
    obtain ⟨positive, most⟩ := amounts k lt
    exact ⟨Nat.one_le_iff_ne_zero.2 positive, Nat.le_of_not_lt most⟩

/-- The wait mode in its byte. -/
theorem mode_eq_one {m : Byte} : m.toNat = 1 ↔ m = 1#8 := by
  rw [← BitVec.toNat_inj]
  rfl

/-- Settles O21: the bytes by the ranges of the body, the rest by the checks in their order. -/
theorem claimRefusalsInOrder : Obligations.ClaimRefusalsInOrder := by
  intro s h f n
  have range {p m k : Byte} {rest : List Byte} (good : ¬ BadClaim p m k rest) : InClaimRange p m k rest :=
    not_not.1 (mt badClaim_iff.2 good)
  refine ⟨fun r => exec_claim_of_error n, fun short => exec_claim_of_error n (claimFields_of_short short),
    fun p m hi lo k rest body => ⟨fun bad => ?bytes, fun good high => ?channel, fun good low => ?fields⟩,
    fun cl read => ?checks⟩
  case bytes => exact exec_claim_of_error n (body ▸ claimFields_of_out (badClaim_iff.1 bad))
  case channel => exact exec_claim_of_error n (body ▸ claimFields_of_high (range good) high)
  case fields =>
    obtain ⟨cl, read, priority, waits, deadline, items⟩ := claimFields_of_low (hi := hi) (lo := lo) (range good) low
    refine ⟨cl, body ▸ read, priority, ?_, ?_, items⟩
    · rw [waits, Bool.eq_iff_iff]
      simp [mode_eq_one]
    · simp only [deadline, mode_eq_one]
  case checks =>
    have refused {r : Reason} := exec_claim_of_refusal (r := r) n read
    rw [claimRefusal_eq] at refused
    refine ⟨fun above => refused (if_pos above), fun within => ?_⟩
    rw [if_neg (by simpa using within)] at refused
    refine ⟨fun faulted => refused (if_pos faulted), fun sound => ?_⟩
    rw [if_neg (by simpa using sound)] at refused
    refine ⟨fun held => refused (if_pos held), fun free => ?_⟩
    rw [if_neg (by simpa using free)] at refused
    refine ⟨fun again => refused (if_pos again), fun fresh => ?_⟩
    have new : ¬ Duplicates s h f.tag cl := by
      rintro ⟨e, m, own, same | ⟨i, item, named⟩⟩
      · exact (fresh e m own).1 same
      · simp [(fresh e m own).2 i item] at named
    rw [if_neg new] at refused
    refine ⟨fun above => refused (if_pos above), fun fits waits full => ?_⟩
    have passed : s.claimRefusal h f.tag cl = none := by
      rw [claimRefusal_eq, if_neg (by simpa using within), if_neg (by simpa using sound), if_neg (by simpa using free),
        if_neg new, if_neg (Nat.not_lt.2 fits)]
    have noRoom : (taken s h).queueFull h = true := queueFull_eq_true.2 full
    rw [exec_claim_of_checked n read passed, if_pos waits, claimWait_of_full noRoom]
    rfl

end Sys2Proof
end

section
/-! A CLAIM that waits and one that does not, after the scan of its event (R45 to R48). -/

namespace Sys2Proof

open Machine

theorem claimWait_of_waiting {s v : State} {h : HostId} {f : Frame} {cl : Claim} {e : WaitEntry} {fate : Fate}
    (room : s.queueFull h = false) (is : e = s.entryFor h f.tag cl s.queue.nextArrival)
    (scan : ((s.place e).advanceArrival).scanFor h f.tag = (v, fate)) (waits : ∀ nums, fate ≠ .admitted nums) :
    s.claimWait h f cl = v.respond h f (.claimQueued (v.queue.entries.idxOf e + 1)) := by
  subst is
  cases fate with
  | admitted nums => exact absurd rfl (waits nums)
  | unseen | passedOver => simp [State.claimWait, room, scan]

theorem claimNoWait_of_waiting {s v : State} {h : HostId} {f : Frame} {cl : Claim} {e : WaitEntry} {fate : Fate}
    (is : e = s.entryFor h f.tag cl 0) (scan : (s.place e).scanFor h f.tag = (v, fate))
    (waits : ∀ nums, fate ≠ .admitted nums) :
    s.claimNoWait h f cl = (v.takeOut e).respond h f
      (.refused (if v.heldByOther h cl.items then .channelHeld else .noBudget) (decide (fate = .unseen))) := by
  subst is
  cases fate with
  | admitted nums => exact absurd rfl (waits nums)
  | unseen | passedOver => simp only [State.claimNoWait, scan]; rfl

/-- A claim that is no duplicate has a key that no waiting entry has (R44). -/
theorem fresh_of_not_duplicates {s : State} {h : HostId} {tag : Byte} {cl : Claim} (new : ¬ Duplicates s h tag cl) :
    ∀ x ∈ s.queue.entries, x.key ≠ (h, tag) := fun x m same => by
  obtain ⟨own, tagged⟩ := Prod.mk.inj same
  exact new ⟨x, m, own, .inl tagged⟩

/-- Settles O19: by what the scan does with the entry placed. -/
theorem waitClaimIsAdmittedOrQueued : Obligations.WaitClaimIsAdmittedOrQueued := by
  intro s h f cl e n read passed waits few fewOwn is
  have entry : e = (taken s h).entryFor h f.tag cl (taken s h).queue.nextArrival := is
  obtain ⟨host, tag, items, priority⟩ : e.host = h ∧ e.tag = f.tag ∧ e.items = cl.items ∧ e.priority = cl.priority := by
    rw [is]
    exact ⟨rfl, rfl, rfl, rfl⟩
  have distinct : (e.items.map Item.channel).Nodup := items ▸ (claimFields_items read).1
  have fresh : ∀ x ∈ s.queue.entries, x.key ≠ e.key := by
    rw [WaitEntry.key, host, tag]
    exact fresh_of_not_duplicates (claimRefusal_eq_none passed).2
  have room : (taken s h).queueFull h = false := by
    rw [← Bool.not_eq_true, queueFull_eq_true, taken_queue]
    omega
  let t := ((taken s h).place e).advanceArrival
  have placed : t.queue.entries = placeEntry e s.queue.entries := place_entries (taken s h) e
  have arrival : (t.scanFor h f.tag).1.queue.nextArrival = (s.queue.nextArrival + 1) % 65536 := by
    rw [(acts_scanFor ..).quiet.arrival]
    exact congrArg (fun k => (k + 1) % 65536) (State.setEntries_arrival (taken s h) _)
  have came : Came t e (t.scanFor h f.tag) := by
    rw [← host, ← tag]
    exact came_scanFor fresh placed
  have box (u : State) (a : Answer) : (u.respond h f a).outbox h = u.outbox h ++ [.response (f.kind.truncate 7) f.tag a] := by
    rw [State.respond, State.withOutbox_outbox, if_pos rfl]
  rw [exec_claim_of_checked n read passed, if_pos waits]
  generalize scan : t.scanFor h f.tag = r at arrival came
  cases came with
  | admitted v u before adm after =>
    rw [claimWait_of_admitted room (by rw [← entry]; exact scan)]
    refine ⟨_, u.outbox h, rfl, arrival, .inl ⟨_, ?_, box .., ?_, fun i m => ?_⟩⟩
    · rw [admitEntry_numbers, createGrants_length, items]
    · rw [State.respond_queue]
      exact not_mem_of_admitted (fun m => fresh e m rfl) (placed ▸ before.entries) after
    · have stands := slot_of_admitted distinct after (i := i) (items ▸ m)
      simp only [host, tag, priority] at stands
      exact stands
  | passedOver u waiting | unseen u waiting blocks =>
    rw [claimWait_of_waiting room entry scan (by simp)]
    exact ⟨_, u.outbox h, rfl, arrival, .inr ⟨_, Nat.succ_pos _, box .., List.getElem?_idxOf waiting⟩⟩

/-! ### A claim that does not wait -/

/-- The reason of a refusal for want of room, as the statement has it (R48). -/
theorem reason_eq {s : State} {h : HostId} {items : List Item} {reason : Reason}
    (held : (∃ i ∈ items, ∃ g, s.slot i.channel = some g ∧ g.owner ≠ h) → reason = .channelHeld)
    (free : ¬ (∃ i ∈ items, ∃ g, s.slot i.channel = some g ∧ g.owner ≠ h) → reason = .noBudget) :
    (if s.heldByOther h items then .channelHeld else .noBudget) = reason := by
  have other (i : Item) : ((s.slot i.channel).isSome && !s.holds h i.channel) = true ↔
      ∃ g, s.slot i.channel = some g ∧ g.owner ≠ h := by
    cases slot : s.slot i.channel <;> simp [State.holds, slot]
  have iff : s.heldByOther h items = true ↔ ∃ i ∈ items, ∃ g, s.slot i.channel = some g ∧ g.owner ≠ h := by
    simp only [State.heldByOther, List.any_eq_true, other]
  split
  · next by' => exact (held (iff.1 by')).symm
  · next no => exact (free (mt iff.2 no)).symm

theorem walked_scanFor (s : State) (h : HostId) (tag : Byte) : Walked s (s.scanFor h tag).1 := walked_scanWalk ..

/-- The scan for a claim that waits alone and is not admissible passes it over (R50). -/
theorem scanFor_of_alone {s : State} {e : WaitEntry} (alone : s.queue.entries = [e]) (short : s.admissible e = false) :
    s.scanFor e.host e.tag = (s, .passedOver) := by
  have key : e.key = (e.host, e.tag) := rfl
  simp [State.scanFor, alone, scanWalk, short, key]

/-- Behind a blocking head that is not admissible no entry is examined (R50). -/
theorem scanFor_of_blocked {s : State} {head x : WaitEntry} {rest : List WaitEntry} {h : HostId} {tag : Byte}
    (queue : s.queue.entries = head :: x :: rest) (blocking : s.queue.headBlocking = true) (short : s.admissible head = false)
    (other : head.key ≠ (h, tag)) : s.scanFor h tag = (s, .unseen) := by
  simp [State.scanFor, queue, scanWalk, short, blocking, other.symm]

/-- An entry of no higher priority than the head is placed behind it. -/
theorem placeEntry_of_le {e head : WaitEntry} {rest : List WaitEntry} (lower : e.priority ≤ head.priority) :
    placeEntry e (head :: rest) = head :: placeEntry e rest := by
  rw [placeEntry, if_neg]
  simp [Nat.not_lt.2 lower]

/-- Replacements of the entries that leave the head leave the other fields of the queue. -/
theorem setEntries_of_head {s : State} {es : List WaitEntry} (head : es.head? = s.queue.entries.head?) :
    s.setEntries es = { s with queue := { s.queue with entries := es } } := by
  simp [State.setEntries, head]

/-- A NO_WAIT claim that does not fit an empty queue (R46, R48). -/
theorem claimNoWait_of_empty {s : State} {h : HostId} {f : Frame} {cl : Claim} {reason : Reason}
    (reasoned : (if s.heldByOther h cl.items then .channelHeld else .noBudget) = reason) (empty : s.queue.entries = [])
    (short : s.admissible (s.entryFor h f.tag cl 0) = false) :
    s.claimNoWait h f cl =
      State.respond h f (.refused reason false)
        { s with queue := { s.queue with headBlocking := false, blockingTimer := none } } := by
  obtain ⟨q, placed, alone, arrival⟩ := place_of_empty empty (s.entryFor h f.tag cl 0)
  have scan : (s.place (s.entryFor h f.tag cl 0)).scanFor h f.tag = (s.place (s.entryFor h f.tag cl 0), .passedOver) := by
    rw [placed]
    exact scanFor_of_alone (e := s.entryFor h f.tag cl 0) alone short
  have gone : (s.place (s.entryFor h f.tag cl 0)).takeOut (s.entryFor h f.tag cl 0) =
      { s with queue := { s.queue with headBlocking := false, blockingTimer := none } } := by
    rw [placed, State.takeOut, State.setEntries_eq]
    dsimp only
    rw [alone, List.erase_cons_head, setEntries_nil_queue (by simp [alone]), ← empty]
    dsimp only
    rw [arrival]
  rw [claimNoWait_of_waiting rfl scan (by simp), gone, placed]
  subst reasoned
  rfl

/-- A NO_WAIT claim behind a blocking head that is not admissible (R48, R50, R56). -/
theorem claimNoWait_of_blocked {s : State} {h : HostId} {f : Frame} {cl : Claim} {reason : Reason} {head : WaitEntry}
    {rest : List WaitEntry} (reasoned : (if s.heldByOther h cl.items then .channelHeld else .noBudget) = reason)
    (queue : s.queue.entries = head :: rest) (blocking : s.queue.headBlocking = true) (short : s.admissible head = false)
    (lower : cl.priority ≤ head.priority) (fresh : ∀ x ∈ s.queue.entries, x.key ≠ (h, f.tag)) :
    s.claimNoWait h f cl = s.respond h f (.refused reason true) := by
  obtain ⟨e, is⟩ : ∃ e, e = s.entryFor h f.tag cl 0 := ⟨_, rfl⟩
  have new : e ∉ s.queue.entries := fun m => fresh e m (by rw [is]; rfl)
  have entries : placeEntry e s.queue.entries = head :: placeEntry e rest := by
    rw [queue, placeEntry_of_le (by rw [is]; exact lower)]
  have placed : s.place e = { s with queue := { s.queue with entries := head :: placeEntry e rest } } := by
    rw [State.place, entries, setEntries_of_head (by simp [queue])]
  have scan : (s.place e).scanFor h f.tag = (s.place e, .unseen) := by
    obtain ⟨x, more, behind⟩ : ∃ x more, placeEntry e rest = x :: more := by
      refine List.exists_cons_of_ne_nil fun none => ?_
      have := (placeEntry_perm e rest).length_eq
      simp [none] at this
    rw [placed, behind]
    exact scanFor_of_blocked rfl blocking short (fresh head (by simp [queue]))
  have back : (s.place e).takeOut e = s := by
    have left : (head :: placeEntry e rest).erase e = head :: rest := by
      rw [← entries, erase_placeEntry new, queue]
    rw [placed, State.takeOut]
    dsimp only
    rw [left]
    refine (setEntries_of_head (by rfl)).trans ?_
    rw [← queue]
  rw [claimNoWait_of_waiting is scan (by simp), back, placed]
  subst reasoned
  rfl

/-- Settles O20: by the scan of the entry placed, in an empty queue, behind a blocking head, and in any queue. -/
theorem noWaitClaimThatDoesNotFitIsRefused : Obligations.NoWaitClaimThatDoesNotFitIsRefused := by
  intro s h f cl reason n read passed waits held free
  have fresh : ∀ x ∈ s.queue.entries, x.key ≠ (h, f.tag) :=
    fresh_of_not_duplicates (claimRefusal_eq_none passed).2
  have row : exec .claim s = .next ((taken s h).claimNoWait h f cl) := by
    rw [exec_claim_of_checked n read passed, if_neg (by simp [waits])]
  have reasoned := reason_eq (s := taken s h) held free
  refine ⟨fun empty short => ?empty, fun head rest queue blocking short lower => ?blocked, fun e u fate is scan => ?any⟩
  case empty =>
    rw [row, claimNoWait_of_empty (s := taken s h) reasoned empty short]
    rfl
  case blocked =>
    rw [row, claimNoWait_of_blocked (s := taken s h) reasoned queue blocking short lower fresh]
    rfl
  case any =>
    have new : e ∉ s.queue.entries := fun m => fresh e m (by rw [is]; rfl)
    have placed : ((taken s h).place e).queue.entries = placeEntry e s.queue.entries := place_entries (taken s h) e
    have came : Came ((taken s h).place e) e (u, fate) := by
      rw [← scan]
      subst is
      exact came_scanFor fresh placed
    have sub : u.queue.entries.Sublist (placeEntry e s.queue.entries) := by
      have walked := walked_scanFor ((taken s h).place e) h f.tag
      rw [scan] at walked
      exact placed ▸ walked.entries
    refine ⟨fun short nums admitted => ?_, fun nums admitted => ?_, fun unseen => ?_, fun waiting => ⟨fun x m => ?_,
      fun why held free => ?_⟩⟩
    · subst admitted
      cases came with
      | admitted v _ before adm =>
        have adm' := (drawn_setEntries (taken s h) _).admissible (before.drawn.admissible adm)
        rw [taken_admissible, short] at adm'
        cases adm'
    · subst admitted is
      rw [row, claimNoWait_of_admitted scan]
    · subst unseen
      cases came with
      | unseen _ _ blocks => exact blocks
    · rw [takeOut_entries] at m
      exact (sublist_of_placed new sub).subset m
    · rw [row, claimNoWait_of_waiting (s := taken s h) is scan waiting, reason_eq held free]

end Sys2Proof
end

section
/-! CANCEL, READ_QUEUE and the timers of the wait queue (R54, R57, R58, R65). -/

namespace Sys2Proof

open Machine

/-! ### The timers -/

/-- A posting to an attached host (R62). -/
theorem post_of_attached {s : State} {h : HostId} (att : s.attached h = true) (n : Notice) :
    s.post h n = { s with outboxes := s.outboxes.upd h (arrive n) } := if_pos att

/-- Settles O26: both expiries with their timers at hand. -/
theorem queueTimersExpire : Obligations.QueueTimersExpire := by
  refine ⟨fun s e timer => ?blocking, fun s h tag e d u found window att is => ?deadline⟩
  case blocking =>
    simp only [exec, execBlockingTimerExpiry, timer]
    rfl
  case deadline =>
    have due : e.deadlineAt = some (e.born + ms d) := by simp [WaitEntry.deadlineAt, window]
    have out : (s.reach (e.born + ms d)).takeOut e = u := is.symm
    have att' : u.attached h = true := by
      rw [is, State.setEntries_eq]
      exact att
    simp only [exec, execDeadlineExpiry, found, due]
    rw [out, post_of_attached att']

/-! ### CANCEL -/

theorem exec_cancel {s : State} {h : HostId} {f : Frame} (n : Served .cancel s h f) :
    exec .cancel s = .next (handleCancel h f (taken s h)) := congrArg _ (taking_served n handleCancel)

theorem entryOf_eq_none {s : State} {h : HostId} {tag : Byte} (none : ∀ e ∈ s.queue.entries, e.host = h → e.tag ≠ tag) :
    s.entryOf h tag = .none := by
  refine List.find?_eq_none.2 fun e m => ?_
  simpa [WaitEntry.key] using none e m

/-- The first entry of a host with a tag is found. -/
theorem entryOf_eq_some {s : State} {h : HostId} {tag : Byte} {front back : List WaitEntry} {e : WaitEntry}
    (queue : s.queue.entries = front ++ e :: back) (own : e.host = h) (tagged : e.tag = tag)
    (first : ∀ x ∈ front, x.host = h → x.tag ≠ tag) : s.entryOf h tag = some e := by
  refine List.find?_eq_some_iff_append.2 ⟨by simp [WaitEntry.key, own, tagged], front, back, queue, fun x m => ?_⟩
  simpa [WaitEntry.key] using first x m

/-- Settles O27: by the body and by what is found of its tag. -/
theorem cancelRemovesTheEntry : Obligations.CancelRemovesTheEntry := by
  intro s h f n
  refine ⟨fun length => ?value, fun tag body => ⟨fun none => ?absent, fun front e back queue own tagged first => ?removed⟩⟩
  case value =>
    rw [exec_cancel n, handleCancel]
    split
    · next tag body => simp [body] at length
    · rfl
  case absent =>
    rw [exec_cancel n, handleCancel, body]
    dsimp only
    rw [entryOf_eq_none (s := taken s h) none]
    rfl
  case removed =>
    have notIn : e ∉ front := fun m => first e m own tagged
    have left : s.queue.entries.erase e = front ++ back := by
      rw [queue, List.erase_append_right _ notIn, List.erase_cons_head]
    rw [exec_cancel n, handleCancel, body]
    dsimp only
    rw [entryOf_eq_some (s := taken s h) queue own tagged first]
    dsimp only
    rw [State.takeOut, taken_queue, left]

/-! ### READ_QUEUE -/

/-- What one entry of a queue is reported as, at its position (R65). -/
def reported (s : State) (pos : Nat) (e : WaitEntry) : QueueReport where
  tag := e.tag
  position := pos
  priority := e.priority
  blocking := pos == 1 && s.queue.headBlocking
  arrival := e.arrival
  age := min (e.age s.now) Config.ageMax
  remaining := e.deadlineAt.elim 0 s.remaining
  items := e.items

theorem queueReports_cons (s : State) (h : HostId) (pos : Nat) (e : WaitEntry) (rest : List WaitEntry) :
    s.queueReports h pos (e :: rest) =
      if e.host = h then reported s pos e :: s.queueReports h (pos + 1) rest else s.queueReports h (pos + 1) rest := rfl

theorem queueReports_length (s : State) (h : HostId) (es : List WaitEntry) : ∀ pos,
    (s.queueReports h pos es).length = es.countP (·.host == h) := by
  induction es with
  | nil => exact fun _ => rfl
  | cons e rest ih =>
    intro pos
    rw [queueReports_cons]
    by_cases own : e.host = h <;> simp [own, ih]

/-- A report is of an entry of the host, at its position counted from `pos`. -/
theorem mem_queueReports {s : State} {h : HostId} {q : QueueReport} (es : List WaitEntry) : ∀ {pos : Nat},
    q ∈ s.queueReports h pos es → ∃ k e, es[k]? = some e ∧ e.host = h ∧ q = reported s (pos + k) e := by
  induction es with
  | nil => exact fun m => absurd m List.not_mem_nil
  | cons e rest ih =>
    intro pos m
    have later (m : q ∈ s.queueReports h (pos + 1) rest) :
        ∃ k x, (e :: rest)[k]? = some x ∧ x.host = h ∧ q = reported s (pos + k) x := by
      obtain ⟨k, x, at', own, is⟩ := ih m
      exact ⟨k + 1, x, at', own, by rw [is, Nat.add_right_comm, Nat.add_assoc]⟩
    rw [queueReports_cons] at m
    split at m
    · next own =>
      rcases List.mem_cons.1 m with rfl | m
      · exact ⟨0, e, rfl, own, rfl⟩
      · exact later m
    · exact later m

/-- Reports are in queue order. -/
theorem queueReports_sorted (s : State) (h : HostId) (es : List WaitEntry) : ∀ pos,
    ((s.queueReports h pos es).map QueueReport.position).Pairwise (· < ·) := by
  induction es with
  | nil => exact fun _ => .nil
  | cons e rest ih =>
    intro pos
    rw [queueReports_cons]
    split
    · refine List.pairwise_cons.2 ⟨fun p m => ?_, ih _⟩
      obtain ⟨q, m', rfl⟩ := List.mem_map.1 m
      obtain ⟨k, x, -, -, rfl⟩ := mem_queueReports rest m'
      simp only [reported]
      omega
    · exact ih _

/-- Settles O28: each report is of the entry at its position. -/
theorem readQueueDescribesOwnEntries : Obligations.ReadQueueDescribesOwnEntries := by
  intro s h f n
  have row : (f.body = [] → exec .readQueue s = .next
      (answered s h f (.readQueue s.queue.entries.length ((taken s h).queueReports h 1 s.queue.entries)))) ∧
        (f.body ≠ [] → exec .readQueue s = .next (refusedWith s h f .badValue)) :=
    exec_bodiless (congrArg _ (taking_served n handleReadQueue)) rfl
  refine ⟨row.2, fun none => ⟨_, row.1 none, queueReports_length .., queueReports_sorted .., fun q m => ?_⟩⟩
  obtain ⟨k, e, at', own, rfl⟩ := mem_queueReports s.queue.entries m
  refine ⟨Nat.le_add_right 1 k, e, ?_, own, rfl, rfl, rfl, rfl, by simp [reported], rfl, fun none => ?_, fun d window => ?_⟩
  · rw [show (reported (taken s h) (1 + k) e).position = 1 + k from rfl, Nat.add_sub_cancel_left]
    exact at'
  · simp [reported, WaitEntry.deadlineAt, none]
  · simp [reported, WaitEntry.deadlineAt, window, State.remaining, ms, Config.slotsPerMs]

end Sys2Proof
end

section
/-! Quarantine and the wait queue: which operations leave every channel out of FAULTED, and that after the others no entry names
the channel that entered it (R59, R92). -/

namespace Sys2Proof

open Machine

/-! ### Operations that quarantine no channel -/

/-- From `s` to `t` no channel enters FAULTED. -/
structure NoFault (s t : State) : Prop where
  before : ∀ c, (t.chan c).state = .faulted → (s.chan c).state = .faulted

theorem NoFault.refl (s : State) : NoFault s s := ⟨fun _ state => state⟩

theorem NoFault.trans {s t u : State} (first : NoFault s t) (second : NoFault t u) : NoFault s u :=
  ⟨fun c state => first.before c (second.before c state)⟩

theorem NoFault.of_chan {s t : State} (same : ∀ c, t.chan c = s.chan c) : NoFault s t := ⟨fun c state => same c ▸ state⟩

theorem NoFault.of_channels {s t : State} (same : t.channels = s.channels) : NoFault s t :=
  .of_chan fun c => by rw [State.chan, same]; rfl

theorem noFault_post (s : State) (h : HostId) (n : Notice) : NoFault s (s.post h n) := .of_chan (State.post_chan s h n)

theorem noFault_broadcast (s : State) (n : Notice) : NoFault s (s.broadcast n) := by
  rw [State.broadcast_eq]; exact .of_channels rfl

theorem noFault_setEntries (s : State) (es : List WaitEntry) : NoFault s (s.setEntries es) := by
  rw [State.setEntries_eq]; exact .of_channels rfl

theorem noFault_endClosing (s : State) (h : HostId) : NoFault s (s.endClosing h) := by
  rw [endClosing_eq]; exact .of_channels rfl

theorem noFault_createGrants (e : WaitEntry) (is : List Item) : ∀ s : State, NoFault s (s.createGrants e is).1 := by
  induction is with
  | nil => exact NoFault.refl
  | cons i rest ih =>
    refine fun s => NoFault.trans ⟨fun c state => ?_⟩ (ih (s.createGrant e i))
    rw [State.createGrant_chan] at state
    split at state
    · cases state
    · exact state

theorem noFault_admitEntry (s : State) (e : WaitEntry) : NoFault s (s.admitEntry e).1 :=
  (noFault_createGrants e e.items s).trans (noFault_setEntries ..)

theorem noFault_scanWalk (claim : Option (HostId × Byte)) (todo : List WaitEntry) (flag : Bool) (s : State) (fate : Fate) :
    NoFault s (scanWalk claim todo flag (s, fate)).1 :=
  scanWalk_relates .refl .trans (fun _ _ _ => noFault_admitEntry ..) noFault_post ..

theorem noFault_scanQueue (s : State) : NoFault s s.scanQueue := noFault_scanWalk ..

theorem noFault_failEntries (s : State) (p : WaitEntry → Bool) (k : FailCause) : NoFault s (s.failEntries p k) := by
  refine NoFault.trans ?_ (noFault_setEntries ..)
  rw [postFailed_eq]
  exact .of_channels rfl

theorem noFault_failAndScan (s : State) (p : WaitEntry → Bool) (k : FailCause) : NoFault s (s.failAndScan p k) := by
  unfold State.failAndScan
  split
  · exact (noFault_failEntries ..).trans (noFault_scanQueue _)
  · exact .refl s

theorem noFault_announceFault (s : State) (c : ChanId) : NoFault s (s.announceFault c) :=
  (noFault_broadcast ..).trans (noFault_failAndScan ..)

theorem noFault_postEnded (s : State) (c : ChanId) (g : Grant) : NoFault s (s.postEnded c g) := by
  rw [State.postEnded_eq]; exact .of_channels rfl

theorem noFault_endToIdle (s : State) (c : ChanId) : NoFault s (s.endToIdle c) := by
  unfold State.endToIdle
  split
  · exact .refl s
  · next g _ =>
    have removed : NoFault s (s.removeGrant c g .idle) := ⟨fun d state => by
      rw [removeGrant_chan] at state
      split at state
      · cases state
      · exact state⟩
    exact ((removed.trans (noFault_postEnded ..)).trans (noFault_scanQueue _)).trans (noFault_endClosing ..)

theorem noFault_releaseGrant (s : State) (c : ChanId) (k : ReleaseCause) : NoFault s (s.releaseGrant c k) := by
  unfold State.releaseGrant
  split
  · exact .refl s
  · next g _ =>
    have marked : NoFault s ((s.markCause c k).postRevoked c g k) := .of_chan fun d => State.postRevoked_chan ..
    have discharged : NoFault s (((s.markCause c k).postRevoked c g k).startDischarge c g) := marked.trans ⟨fun d state => by
      rw [startDischarge_chan] at state
      split at state
      · cases state
      · exact state⟩
    split
    case h_1 | h_2 | h_3 => exact marked.trans (noFault_endToIdle ..)
    case h_4 | h_5 => exact discharged
    case h_6 | h_7 | h_8 => exact .refl s

theorem noFault_releaseAll (s : State) (p : Grant → Bool) (k : ReleaseCause) : NoFault s (s.releaseAll p k) := by
  unfold State.releaseAll
  generalize s.grants.admission = list
  induction list generalizing s with
  | nil => exact .refl s
  | cons c rest ih =>
    refine NoFault.trans ?_ (ih _)
    dsimp only
    split
    · exact .refl s
    · split
      · exact noFault_releaseGrant ..
      · exact .refl s

theorem noFault_shed (n : Nat) : ∀ s : State, NoFault s (s.shed n) := by
  induction n with
  | zero => exact NoFault.refl
  | succ n ih =>
    intro s
    rw [State.shed]
    split
    · exact .refl s
    · split
      · exact .refl s
      · exact (noFault_releaseGrant ..).trans (ih _)

theorem noFault_recompute (s : State) (k : BudgetCause) : NoFault (s.withTotal s.selectedLevel) (s.recompute k) := by
  unfold State.recompute
  dsimp only
  split
  · exact (noFault_shed ..).trans (noFault_broadcast ..)
  · split
    · exact (noFault_broadcast ..).trans (noFault_scanQueue _)
    · exact .refl _

theorem noFault_queueTeardown (s : State) (h : HostId) : NoFault s (s.queueTeardown h) := by
  unfold State.queueTeardown
  split
  · exact (noFault_setEntries ..).trans (noFault_scanQueue _)
  · exact .refl s

/-! ### Runs of acts that leave no FAULTED channel named -/

/-- A run of acts, with no entry left that names a channel which entered FAULTED in it. -/
structure Clears (s t : State) : Prop where
  acts : Acts s t
  faults : ∀ c, (t.chan c).state = .faulted →
    (s.chan c).state = .faulted ∨ ∀ e ∈ t.queue.entries, WaitEntry.names c e = false

theorem NoFault.clears {s t : State} (calm : NoFault s t) (a : Acts s t) : Clears s t :=
  ⟨a, fun c state => .inl (calm.before c state)⟩

theorem clears_endClosing (s : State) (h : HostId) : Clears s (s.endClosing h) :=
  (noFault_endClosing s h).clears (.single (.close ..))

theorem clears_post (s : State) (h : HostId) (n : Notice) : Clears s (s.post h n) := (noFault_post s h n).clears (acts_post ..)

theorem clears_postOwner (s : State) (g : Grant) (n : Notice) : Clears s (s.postOwner g n) := by
  refine NoFault.clears ?_ (acts_postOwner ..)
  rw [State.postOwner_eq]
  exact .of_channels rfl

theorem clears_broadcast (s : State) (n : Notice) : Clears s (s.broadcast n) :=
  (noFault_broadcast s n).clears (acts_broadcast ..)

theorem clears_takeOut (s : State) (e : WaitEntry) : Clears s (s.takeOut e) :=
  (noFault_setEntries ..).clears (.single (.leave _ _ List.erase_sublist))

theorem clears_scanQueue (s : State) : Clears s s.scanQueue := (noFault_scanQueue s).clears (acts_scanQueue s)

theorem clears_scanFor (s : State) (h : HostId) (tag : Byte) : Clears s (s.scanFor h tag).1 :=
  (noFault_scanWalk ..).clears (acts_scanFor ..)

theorem clears_failEntries (s : State) (p : WaitEntry → Bool) (k : FailCause) : Clears s (s.failEntries p k) :=
  (noFault_failEntries s p k).clears (acts_failEntries ..)

theorem clears_failAndScan (s : State) (p : WaitEntry → Bool) (k : FailCause) : Clears s (s.failAndScan p k) :=
  (noFault_failAndScan s p k).clears (acts_failAndScan ..)

theorem clears_releaseGrant (s : State) (c : ChanId) (k : ReleaseCause) : Clears s (s.releaseGrant c k) :=
  (noFault_releaseGrant s c k).clears (acts_releaseGrant ..)

theorem clears_releaseAll (s : State) (p : Grant → Bool) (k : ReleaseCause) : Clears s (s.releaseAll p k) :=
  (noFault_releaseAll s p k).clears (acts_releaseAll ..)

theorem clears_recompute (s : State) (k : BudgetCause) : Clears (s.withTotal s.selectedLevel) (s.recompute k) :=
  (noFault_recompute s k).clears (acts_recompute ..)

theorem clears_emptied (s : State) (h : HostId) (cause : CloseCause) : Clears (justClosed s h cause) (emptied s h cause) :=
  ((noFault_queueTeardown ..).trans (noFault_releaseAll ..)).clears (acts_emptied ..)

theorem clears_markCause (s : State) (c : ChanId) (k : ReleaseCause) : Clears s (s.markCause c k) :=
  NoFault.clears (.of_channels rfl) (.single (.mark s c k))

theorem clears_endToIdle {s : State} {c : ChanId} (gate : (s.chan c).state ≠ .ramping ∧ (s.chan c).state ≠ .on) :
    Clears s (s.endToIdle c) := (noFault_endToIdle s c).clears (acts_endToIdle s c gate)

/-- Once a quarantine is announced, a channel FAULTED that was not before is the one announced, and no entry names it. -/
theorem faults_announceFault {s t : State} {c : ChanId} (others : ∀ d, d ≠ c → (t.chan d).state = .faulted →
    (s.chan d).state = .faulted) (d : ChanId) (state : ((t.announceFault c).chan d).state = .faulted) :
    (s.chan d).state = .faulted ∨ ∀ e ∈ (t.announceFault c).queue.entries, WaitEntry.names d e = false := by
  by_cases same : d = c
  · exact .inr fun e m => same ▸ names_of_mem_announceFault m
  · exact .inl (others d same ((noFault_announceFault t c).before d state))

theorem clears_faultIdle {s : State} {c : ChanId} (idle : (s.chan c).state = .idle) : Clears s (s.faultIdle c) where
  acts := acts_faultIdle s c idle
  faults d state := by
    unfold State.faultIdle at state ⊢
    refine faults_announceFault (fun d other state => ?_) d state
    rwa [State.withChannel_chan, if_neg other] at state

theorem clears_endToFaulted {s : State} {c : ChanId} (gate : (s.chan c).state ≠ .ramping ∧ (s.chan c).state ≠ .on) :
    Clears s (s.endToFaulted c) where
  acts := acts_endToFaulted s c gate
  faults d state := by
    unfold State.endToFaulted at state ⊢
    split at state
    · exact .inl state
    · next g slot =>
      generalize announced : ((s.removeGrant c g .faulted).postEnded c g).scanQueue = t at state ⊢
      have others (d : ChanId) (other : d ≠ c) (state : (t.chan d).state = .faulted) : (s.chan d).state = .faulted := by
        subst announced
        have before := ((noFault_postEnded ..).trans (noFault_scanQueue _)).before d state
        rwa [removeGrant_chan, if_neg other] at before
      have quarantined := faults_announceFault others d ((noFault_endClosing _ g.owner).before d state)
      exact quarantined.imp_right fun unnamed e m => unnamed e (Act.entries (.close ..) e m)

/-- A run of acts only takes entries out of the queue. -/
theorem entries_of_acts {s t : State} (a : Acts s t) : t.queue.entries.Sublist s.queue.entries := by
  refine a.relates (r := fun s t => t.queue.entries.Sublist s.queue.entries) (fun _ => .refl _) (fun _ _ _ h k => k.trans h)
    fun s t a => ?_
  cases a with
  | post => rw [State.post_queue]
  | leave es sub => rwa [State.setEntries_entries]
  | admitEntry e => rw [State.admit_entries]; exact List.erase_sublist
  | finish => rw [removeGrant_queue]
  | close h => rw [endClosing_eq]
  | mark | discharge | fault => exact .refl _

theorem Clears.trans {s t u : State} (first : Clears s t) (second : Clears t u) : Clears s u where
  acts := first.acts.trans second.acts
  faults c state := by
    rcases second.faults c state with before | unnamed
    · exact (first.faults c before).imp_right fun unnamed e m => unnamed e ((entries_of_acts second.acts).subset m)
    · exact .inr unnamed

end Sys2Proof
end

section
/-! What a step can do to owners, sessions and the wait queue, said once: every command but the three resets is a run of stages,
each with what it may rely on where it stands. -/

namespace Sys2Proof

open Machine

/-! ### The stages -/

/-- From `s` to `t` the same grants stand with the same owners, no channel is freed, quarantined, taken or discharged, the sessions
stand as they stood and the same entries wait. -/
structure Alike (s t : State) : Prop where
  isSome : ∀ c, (t.slot c).isSome = (s.slot c).isSome
  admission : t.grants.admission = s.grants.admission
  owners : ∀ c g, t.slot c = some g → ∃ k, s.slot c = some k ∧ g.owner = k.owner ∧ g.epoch = k.epoch
  vacant : ∀ c, (t.chan c).state = .idle ∨ (t.chan c).state = .faulted ↔
    (s.chan c).state = .idle ∨ (s.chan c).state = .faulted
  discharging : ∀ c, (t.chan c).state = .discharging ↔ (s.chan c).state = .discharging
  faulted : ∀ c, (t.chan c).state = .faulted → (s.chan c).state = .faulted
  attached : ∀ h, t.attached h = s.attached h
  epoch : ∀ h, (t.session h).epoch = (s.session h).epoch
  entries : t.queue.entries = s.queue.entries

/-- Besides, the head is judged as it was, at a blocking age that is the same or judges nothing. -/
structure Beside (s t : State) : Prop extends Alike s t where
  headBlocking : t.queue.headBlocking = s.queue.headBlocking
  blockingTimer : t.queue.blockingTimer = s.queue.blockingTimer
  now : s.now ≤ t.now
  age : t.config.blockingAge = s.config.blockingAge ∨ s.queue.entries = []

/-- An entry that may join the queue: of an attached host, on distinct channels, with a tag and channels that its host's entries do
not carry, on channels that its host does not hold and that are not FAULTED (R39, R44). -/
structure Placeable (s : State) (e : WaitEntry) : Prop where
  attached : s.attached e.host = true
  distinct : (e.items.map Item.channel).Nodup
  fresh : ∀ x ∈ s.queue.entries, x.host = e.host → x.tag ≠ e.tag ∧ ∀ i ∈ x.items, ∀ j ∈ e.items, i.channel ≠ j.channel
  allowed : ∀ i ∈ e.items, s.holds e.host i.channel = false ∧ (s.chan i.channel).state ≠ .faulted

/-- The parts of every command but the three resets, as the laws of owners and of the queue see them. -/
inductive Stage : State → State → Prop where
  | acts {s t : State} (c : Clears s t) : Stage s t
  | beside {s t : State} (b : Beside s t) : Stage s t
  /-- The entry of a WAIT claim joins a queue with room for it (R45). -/
  | place (s : State) (e : WaitEntry) (new : Placeable s e) (room : s.queueFull e.host = false) : Stage s (s.place e)
  /-- The entry of a NO_WAIT claim joins the queue for its own scan, and is gone after it (R46). -/
  | once {s u : State} (e : WaitEntry) (new : Placeable s e) (c : Clears (s.place e) u)
      (out : u.queue.entries.Sublist s.queue.entries) : Stage s u
  /-- The blocking timer expires (R54). -/
  | block (s : State) (e : Nat) (timer : s.queue.blockingTimer = some e) (due : e ≤ s.now) :
      Stage s { s with queue := { s.queue with headBlocking := true, blockingTimer := none } }
  /-- The head is judged by another blocking age (R55). -/
  | age (s : State) (k : Configuration) : Stage s (s.withConfig fun _ => k).judgeHead
  /-- A session opens (R130). -/
  | attach (s : State) (h : HostId) (state : (s.session h).state = .detached) : Stage s (s.openSession h)
  /-- A session closes, its host's entries go and its grants are released (R131, R135, R137). -/
  | close (s : State) (h : HostId) (cause : CloseCause) : Stage s (emptied s h cause)

/-- A run of stages. -/
abbrev Stages : State → State → Prop := Relation.ReflTransGen Stage

theorem stages_clears {s t : State} (c : Clears s t) : Stages s t := .single (.acts c)

theorem stages_beside {s t : State} (b : Beside s t) : Stages s t := .single (.beside b)

theorem Alike.refl (s : State) : Alike s s where
  isSome _ := rfl
  admission := rfl
  owners _ g slot := ⟨g, slot, rfl, rfl⟩
  vacant _ := Iff.rfl
  discharging _ := Iff.rfl
  faulted _ state := state
  attached _ := rfl
  epoch _ := rfl
  entries := rfl

theorem Beside.refl (s : State) : Beside s s where
  toAlike := .refl s
  headBlocking := rfl
  blockingTimer := rfl
  now := Nat.le_refl _
  age := .inl rfl

/-! ### What the laws do not see -/

theorem stages_reach (s : State) (t : Nat) : Stages s (s.reach t) :=
  stages_beside { Beside.refl s with now := Nat.le_max_left .. }

theorem stages_taken (s : State) (h : HostId) : Stages s (taken s h) :=
  stages_beside { Beside.refl s with attached := taken_attached s h, epoch := taken_epoch s h }

theorem stages_respond (s : State) (h : HostId) (f : Frame) (a : Answer) : Stages s (s.respond h f a) :=
  stages_beside { Beside.refl s with }

theorem stages_refuse (s : State) (h : HostId) (f : Frame) (r : Reason) : Stages s (s.refuse h f r) := stages_respond ..

theorem stages_withMeasure (s : State) (c : ChanId) (f : Measurement → Measurement) : Stages s (s.withMeasure c f) :=
  stages_beside { Beside.refl s with }

theorem stages_withTally (s : State) (h : HostId) (f : Tally → Tally) : Stages s (s.withTally h f) :=
  stages_beside { Beside.refl s with }

theorem stages_withPort (s : State) (h : HostId) (f : Port → Port) : Stages s (s.withPort h f) :=
  stages_beside { Beside.refl s with }

theorem stages_withProposal (s : State) (o : Option Proposal) : Stages s (s.withProposal o) :=
  stages_beside { Beside.refl s with }

theorem stages_restartRings (s : State) : Stages s s.restartRings := by
  rw [State.restartRings_eq]
  generalize s.restartRings.meas = table
  exact stages_beside { Beside.refl s with }

/-- Configuration and total are replaced, the blocking age kept or judging nothing. -/
theorem stages_configure (s : State) (k : Configuration) (b : Budget)
    (age : k.blockingAge = s.config.blockingAge ∨ s.queue.entries = []) : Stages s { s with config := k, budget := b } :=
  stages_beside { Beside.refl s with age := age }

theorem Turn.noFault {now : Nat} {k : ChannelConfig} {ch ch' : Channel} (turn : Turn now k ch ch')
    (state : ch'.state = .faulted) : ch.state = .faulted := by
  cases turn with
  | off | count | steady | grace => exact state
  | trip =>
    simp only [Channel.tripped] at state
    split at state <;> cases state
  | ramp | good | retry | clear | mend => cases state

theorem stages_turn {s : State} {c : ChanId} {f : Channel → Channel}
    (turn : Turn s.now (s.settings c) (s.chan c) (f (s.chan c))) : Stages s (s.withChannel c f) := by
  have same : s.withChannel c f = s.withChannel c fun _ => f (s.chan c) := by
    unfold State.withChannel
    rw [Table.upd_congr (g := fun _ => f (s.chan c)) _ _ rfl]
  rw [same]
  refine stages_beside { Beside.refl s with
    vacant := (sameLedger_turn turn).vacant, discharging := fun d => ?_, faulted := fun d state => ?_ }
  · rw [State.withChannel_chan]
    split
    · next is => exact is ▸ turn.standing.2
    · exact Iff.rfl
  · rw [State.withChannel_chan] at state
    split at state
    · next is => exact is ▸ turn.noFault state
    · exact state

theorem stages_setAmount (s : State) (c : ChanId) (g : Grant) (amount : Nat) : Stages s (s.setAmount c g amount) := by
  refine stages_beside { Beside.refl s with isSome := (sameTable_setAmount ..).isSome, owners := fun d k slot => ?_ }
  rw [setAmount_slot] at slot
  split at slot
  · obtain ⟨j, held, rfl⟩ := Option.map_eq_some_iff.1 slot
    exact ⟨j, held, rfl, rfl⟩
  · exact ⟨k, slot, rfl, rfl⟩

/-! ### Samples and channel timers -/

theorem stages_postHolder (s : State) (c : ChanId) (n : Grant → Notice) : Stages s (s.postHolder c n) := by
  unfold State.postHolder
  split
  · exact .refl
  · exact stages_clears (clears_postOwner ..)

theorem stages_trip {s : State} {c : ChanId} (state : (s.chan c).state = .ramping ∨ (s.chan c).state = .on) (k : TripCause) :
    Stages s (s.trip c k) :=
  ((stages_turn (.trip state)).trans (stages_withMeasure ..)).trans (stages_postHolder ..)

theorem stages_sampleIdle {s : State} {c : ChanId} (state : (s.chan c).state = .idle) (off : Bool) :
    Stages s (s.sampleIdle c off) := by
  unfold State.sampleIdle
  split
  · exact stages_turn (.off state)
  · split
    · next short => exact stages_turn (.count state short)
    · exact stages_clears (clears_faultIdle state)

theorem stages_sampleChecking {s : State} {c : ChanId} (state : (s.chan c).state = .checking) (off : Bool) :
    Stages s (s.sampleChecking c off) := by
  unfold State.sampleChecking
  split
  · exact stages_turn (.ramp state)
  · exact stages_clears ((clears_markCause ..).trans (clears_endToFaulted (by simp [state])))

theorem stages_sampleRamping {s : State} {c : ChanId} (state : (s.chan c).state = .ramping) (good : Bool) :
    Stages s (s.sampleRamping c good) := by
  unfold State.sampleRamping
  split
  · exact (stages_turn (.good state)).trans (stages_postHolder ..)
  · exact .refl

theorem stages_sampleOn {s : State} {c : ChanId} (state : (s.chan c).state = .on) (good : Bool) :
    Stages s (s.sampleOn c good) := by
  unfold State.sampleOn
  split
  · exact stages_turn (.steady state)
  · split
    · exact .refl
    · next stopped => exact stages_turn (.grace state (by simpa using stopped))

theorem stages_sampleArrival {s : State} {c : ChanId} {off good : Bool} {v : Verdict}
    (gated : v ≠ .none → (s.chan c).state = .ramping ∨ (s.chan c).state = .on) :
    Stages s (s.sampleArrival c off good v) := by
  unfold State.sampleArrival
  split
  · exact stages_trip (gated (by simp)) _
  · exact stages_trip (gated (by simp)) _
  · split
    · next state => exact stages_sampleIdle state _
    · next state => exact stages_sampleChecking state _
    · next state => exact stages_sampleRamping state _
    · next state => exact stages_sampleOn state _
    · next state =>
      unfold State.sampleDischarging
      split
      · exact stages_clears (clears_endToIdle (by simp [state]))
      · exact .refl
    all_goals exact .refl

theorem stages_sampleEvent (s : State) (c : ChanId) (r : Reading) : Stages s (s.sampleEvent c r) := by
  have tallied (t : State) : Stages t (t.tallySample c (powerOf r)) := by
    unfold State.tallySample
    split
    · exact .refl
    · exact stages_withTally ..
  refine ((stages_withMeasure ..).trans (tallied _)).trans (stages_sampleArrival fun trips => ?_)
  rw [tallySample_chan, State.withMeasure_chan]
  exact gated_of_verdict trips

theorem stages_completeSlot (s : State) (c : ChanId) (r : Reading) : Stages s (s.completeSlot c r) := by
  unfold State.completeSlot
  split
  · exact .refl
  · next sc _ =>
    split
    · have advanced : Beside s (s.advanceScan sc) := { Beside.refl s with now := Nat.le_max_left .. }
      have counted (t : State) : Stages t (t.countRound c) := by
        rw [State.countRound_eq]
        exact stages_beside { Beside.refl t with }
      exact ((stages_beside advanced).trans (stages_sampleEvent ..)).trans (counted _)
    · exact .refl

/-! ### Claims -/

theorem placeable_entryFor {s : State} {h : HostId} {tag : Byte} {cl : Claim} (att : s.attached h = true)
    (distinct : (cl.items.map Item.channel).Nodup) (passed : s.claimRefusal h tag cl = none) (arrival : Nat) :
    Placeable s (s.entryFor h tag cl arrival) := by
  obtain ⟨allowed, new⟩ := claimRefusal_eq_none passed
  refine ⟨att, distinct, fun x m own => ⟨fun same => new ⟨x, m, own, .inl same⟩, fun i mi j mj same => new ⟨x, m, own, .inr ?_⟩⟩,
    allowed⟩
  exact ⟨j, mj, List.any_eq_true.2 ⟨i, mi, by simp [same]⟩⟩

theorem Placeable.key_ne {s : State} {e : WaitEntry} (new : Placeable s e) : ∀ x ∈ s.queue.entries, x.key ≠ e.key :=
  fun x m same => (new.fresh x m (congrArg Prod.fst same)).1 (congrArg Prod.snd same)

theorem Placeable.not_mem {s : State} {e : WaitEntry} (new : Placeable s e) : e ∉ s.queue.entries :=
  fun m => new.key_ne e m rfl

theorem stages_claimWait {s : State} {h : HostId} {f : Frame} {cl : Claim} (att : s.attached h = true)
    (distinct : (cl.items.map Item.channel).Nodup) (passed : s.claimRefusal h f.tag cl = none) :
    Stages s (s.claimWait h f cl) := by
  unfold State.claimWait
  split
  · exact stages_refuse ..
  · next room =>
    dsimp only
    have placed : Stages s (s.place (s.entryFor h f.tag cl s.queue.nextArrival)) :=
      .single (.place s _ (placeable_entryFor att distinct passed _) (Bool.not_eq_true _ ▸ room))
    have counted (t : State) : Stages t t.advanceArrival := stages_beside { Beside.refl t with }
    have scanned := (placed.trans (counted _)).trans (stages_clears (clears_scanFor _ h f.tag))
    split <;> exact scanned.trans (stages_respond ..)

theorem stages_claimNoWait {s : State} {h : HostId} {f : Frame} {cl : Claim} (att : s.attached h = true)
    (distinct : (cl.items.map Item.channel).Nodup) (passed : s.claimRefusal h f.tag cl = none) :
    Stages s (s.claimNoWait h f cl) := by
  have new := placeable_entryFor att distinct passed 0
  unfold State.claimNoWait
  dsimp only
  generalize entry : s.entryFor h f.tag cl 0 = e at new ⊢
  have key : (s.place e).scanFor h f.tag = (s.place e).scanFor e.host e.tag := by rw [← entry]; rfl
  have came := came_scanFor new.key_ne (place_entries s e)
  have scanned := clears_scanFor (s.place e) e.host e.tag
  have left := (walked_scanFor (s.place e) e.host e.tag).entries
  rw [place_entries] at left
  rw [key]
  generalize (s.place e).scanFor e.host e.tag = r at came scanned left
  have taken : Stages s (r.1.takeOut e) := by
    refine .single (.once e new (scanned.trans (clears_takeOut ..)) ?_)
    rw [takeOut_entries]
    exact sublist_of_placed new.not_mem left
  cases came with
  | admitted v u before adm after =>
    have gone := not_mem_of_admitted new.not_mem (before.entries.trans (by rw [place_entries])) after
    refine .trans (.single (.once e new scanned ?_)) (stages_respond ..)
    have out := sublist_of_placed new.not_mem left
    rwa [List.erase_of_not_mem gone] at out
  | passedOver | unseen => exact taken.trans (stages_respond ..)

theorem stages_handleClaim {s : State} {h : HostId} (f : Frame) (att : s.attached h = true) :
    Stages s (handleClaim h f s) := by
  unfold handleClaim
  split
  · exact stages_refuse ..
  · next cl read =>
    have ⟨distinct, _⟩ := claimFields_items read
    split
    · exact stages_refuse ..
    · next passed =>
      split
      · exact stages_claimWait att distinct passed
      · exact stages_claimNoWait att distinct passed

theorem stages_handleCancel (s : State) (h : HostId) (f : Frame) : Stages s (handleCancel h f s) := by
  unfold handleCancel
  split
  · split
    · exact stages_refuse ..
    · exact (stages_clears ((clears_takeOut ..).trans (clears_scanQueue _))).trans (stages_respond ..)
  · exact stages_refuse ..

/-! ### Other requests -/

theorem stages_bodiless {s : State} {h : HostId} {f : Frame} {answer : State → State} (m : Stages s (answer s)) :
    Stages s (s.bodiless h f answer) := by
  unfold State.bodiless
  split
  · exact m
  · exact stages_refuse ..

theorem stages_resizeUp (s : State) (h : HostId) (f : Frame) (c : ChanId) (g : Grant) (amount : Nat) :
    Stages s (s.resizeUp h f c g amount) := by
  unfold State.resizeUp
  split
  · exact stages_refuse ..
  · split
    · exact stages_respond ..
    · exact (stages_setAmount ..).trans (stages_respond ..)

theorem stages_resizeChecked (s : State) (h : HostId) (f : Frame) (c : ChanId) (amount : Nat) :
    Stages s (s.resizeChecked h f c amount) := by
  unfold State.resizeChecked
  split
  · exact stages_refuse ..
  · split_ifs
    · exact stages_refuse ..
    · exact stages_refuse ..
    · exact stages_refuse ..
    · exact stages_respond ..
    · exact ((stages_setAmount ..).trans (stages_clears (clears_scanQueue _))).trans (stages_respond ..)
    · exact stages_resizeUp ..
    · exact stages_refuse ..

theorem stages_handleResize (s : State) (h : HostId) (f : Frame) : Stages s (handleResize h f s) := by
  unfold handleResize
  split
  · split
    · exact stages_refuse ..
    · exact stages_resizeChecked ..
  · exact stages_refuse ..

theorem stages_handleRelease (s : State) (h : HostId) (f : Frame) : Stages s (handleRelease h f s) := by
  unfold handleRelease
  split
  · exact stages_refuse ..
  · next c _ =>
    unfold State.releaseChecked
    have released := stages_clears (clears_releaseGrant s c .released)
    split
    · exact stages_refuse ..
    · split
      · exact stages_refuse ..
      · split
        case h_1 | h_2 | h_3 | h_4 | h_5 => exact released.trans (stages_respond ..)
        case h_6 | h_7 | h_8 => exact stages_refuse ..

theorem stages_handleClearTrip (s : State) (h : HostId) (f : Frame) : Stages s (handleClearTrip h f s) := by
  unfold handleClearTrip
  split
  · exact stages_refuse ..
  · unfold State.clearTripChecked
    split
    · exact stages_refuse ..
    · split
      · exact stages_refuse ..
      · split
        · next state => exact (stages_turn (.clear (.inl state))).trans (stages_respond ..)
        · next state => exact (stages_turn (.clear (.inr state))).trans (stages_respond ..)
        all_goals exact stages_refuse ..

theorem stages_handleReadChannel (s : State) (h : HostId) (f : Frame) : Stages s (handleReadChannel h f s) := by
  unfold handleReadChannel
  split
  · split
    · exact stages_refuse ..
    · exact stages_refuse ..
    · unfold State.readChannelChecked
      split
      · split
        · exact (stages_withMeasure ..).trans (stages_respond ..)
        · exact stages_refuse ..
      · exact stages_respond ..
  · exact stages_refuse ..

theorem stages_handleReadTally (s : State) (h : HostId) (f : Frame) : Stages s (handleReadTally h f s) := by
  unfold handleReadTally
  split
  · split
    · exact stages_refuse ..
    · split
      · exact (stages_withTally ..).trans (stages_respond ..)
      · exact stages_respond ..
  · exact stages_refuse ..

theorem stages_handleReadConfig (s : State) (h : HostId) (f : Frame) : Stages s (handleReadConfig h f s) := by
  unfold handleReadConfig
  split
  · split
    · exact stages_respond ..
    · split
      · split
        · exact stages_refuse ..
        · exact stages_respond ..
      · exact stages_refuse ..
  · exact stages_refuse ..

theorem stages_handleAttach (s : State) (h : HostId) (f : Frame) : Stages s (handleAttach h f s) := by
  unfold handleAttach
  split
  · next state =>
    split
    · exact .trans (.single (.attach s h state)) (stages_respond ..)
    · exact stages_refuse ..
  · exact stages_refuse ..
  · exact stages_refuse ..

/-! ### Adoptions and proposals -/

theorem stages_recompute (s : State) (k : BudgetCause) : Stages s (s.recompute k) :=
  .trans (stages_configure s s.config _ (.inl rfl)) (stages_clears (clears_recompute s k))

theorem stages_adoptResetPart (s : State) : Stages s s.adoptResetPart := by
  unfold State.adoptResetPart
  have dropped := clears_failEntries s (fun _ => true) .reset
  have emptied := dropped.trans (clears_releaseAll _ (fun _ => true) .reset)
  have none : (((s.failEntries (fun _ => true) .reset).releaseAll (fun _ => true) .reset).queue.entries) = [] := by
    refine List.eq_nil_iff_forall_not_mem.2 fun e m => ?_
    have waits := (entries_of_acts (acts_releaseAll _ (fun _ => true) .reset)).subset m
    simp [State.failEntries, State.dropEntries] at waits
  generalize ((s.failEntries (fun _ => true) .reset).releaseAll (fun _ => true) .reset) = t at emptied none ⊢
  have configured : Stages t (t.withConfig fun _ => Configuration.default s.pins.straps) :=
    stages_configure t _ t.budget (.inr none)
  have zeroed (u : State) : Stages u u.zeroTallies := stages_beside { Beside.refl u with }
  exact ((((stages_clears emptied).trans configured).trans (stages_recompute ..)).trans (stages_restartRings _)).trans (zeroed _)

theorem stages_adopt (s : State) (straps : BitVec 2) (ch : Change) : Stages s (s.adopt straps ch) := by
  have configured (k : Configuration) (age : k.blockingAge = s.config.blockingAge) : Stages s (s.withConfig fun _ => k) :=
    stages_configure s k s.budget (.inl age)
  cases ch with
  | setBudget n d => exact (configured { s.config with normal := n, derated := d } rfl).trans (stages_recompute ..)
  | setCeiling c v =>
    exact (configured (s.withSettings c fun k => { k with ceiling := v }).config rfl).trans (stages_clears (clears_failAndScan ..))
  | setChannelTiming => exact configured _ rfl
  | setLease => exact configured _ rfl
  | setHostCap h v =>
    refine (configured { s.config with caps := s.config.caps.upd h fun _ => v } rfl).trans (stages_clears ?_)
    rw [State.adopt, State.adoptCap]
    dsimp only
    split
    · exact (clears_failEntries ..).trans (clears_scanQueue _)
    · exact clears_failEntries ..
  | setQueueAge a =>
    refine .head (.age s { s.config with blockingAge := a }) ?_
    rw [State.adopt, State.adoptQueueAge]
    dsimp only
    split
    · exact stages_clears (clears_scanQueue _)
    · exact .refl
  | setAveraging n => exact (configured { s.config with averaging := n } rfl).trans (stages_restartRings _)
  | clearChannelFault c =>
    rw [State.adopt, State.adoptClearFault]
    split
    · next faulted => exact stages_turn (.mend faulted)
    · exact .refl
  | forceRelease c n =>
    rw [State.adopt, State.adoptForceRelease]
    split
    · exact .refl
    · split
      · exact stages_clears (clears_releaseGrant ..)
      · exact .refl
  | resetPart =>
    have read : Stages s (s.readStraps straps) := stages_beside { Beside.refl s with }
    exact read.trans (stages_adoptResetPart _)

theorem stages_adoptProposal (s : State) (straps : BitVec 2) (p : Proposal) : Stages s (s.adoptProposal straps p) :=
  ((stages_withProposal s none).trans (stages_adopt ..)).trans (stages_clears (clears_broadcast ..))

theorem stages_closeProposal (s : State) (p : Proposal) (o : CloseOutcome) (d : Option HostId) :
    Stages s (s.closeProposal p o d) :=
  (stages_withProposal s none).trans (stages_clears (clears_broadcast ..))

theorem stages_postOpened (s : State) (p : Proposal) : Stages s (s.postOpened p) := by
  have told (t : State) (k : HostId) : Stages t
      (if p.electorate.read k && k != p.proposer then t.post k (.proposalOpened p.id p.proposer p.change) else t) := by
    split
    · exact stages_clears (clears_post ..)
    · exact .refl
  exact (((told _ 0).trans (told _ 1)).trans (told _ 2)).trans (told _ 3)

theorem stages_openProposal (s : State) (straps : BitVec 2) (h : HostId) (f : Frame) (ch : Change) :
    Stages s (s.openProposal straps h f ch) := by
  have counted : Stages s s.advanceProposal := stages_beside { Beside.refl s with }
  unfold State.openProposal
  dsimp only
  split
  · exact (counted.trans (stages_adoptProposal ..)).trans (stages_respond ..)
  · exact ((counted.trans (stages_withProposal ..)).trans (stages_postOpened ..)).trans (stages_respond ..)

theorem stages_handlePropose (s : State) (straps : BitVec 2) (h : HostId) (f : Frame) :
    Stages s (handlePropose straps h f s) := by
  unfold handlePropose
  split
  · exact stages_refuse ..
  · split
    · exact stages_refuse ..
    · split
      · exact stages_refuse ..
      · exact stages_openProposal ..

theorem stages_withOpen {s : State} {h : HostId} {f : Frame} {act : Proposal → State → State}
    (acts : ∀ p, Stages s (act p s)) : Stages s (s.withOpen h f act) := by
  unfold State.withOpen
  split
  · split
    · exact stages_refuse ..
    · exact acts _
  · exact stages_refuse ..

theorem stages_handleConsent (s : State) (straps : BitVec 2) (h : HostId) (f : Frame) :
    Stages s (handleConsent straps h f s) := by
  refine stages_withOpen fun p => ?_
  unfold State.consentTo
  split
  · exact stages_refuse ..
  · split
    · exact stages_respond ..
    · dsimp only
      split
      · exact (stages_adoptProposal ..).trans (stages_respond ..)
      · exact (stages_withProposal ..).trans (stages_respond ..)

theorem stages_handleDissent (s : State) (h : HostId) (f : Frame) : Stages s (handleDissent h f s) := by
  refine stages_withOpen fun p => ?_
  split
  · exact stages_refuse ..
  · exact (stages_closeProposal ..).trans (stages_respond ..)

theorem stages_handleWithdraw (s : State) (h : HostId) (f : Frame) : Stages s (handleWithdraw h f s) := by
  refine stages_withOpen fun p => ?_
  split
  · exact (stages_closeProposal ..).trans (stages_respond ..)
  · exact stages_refuse ..

/-! ### Sessions -/

theorem stages_closeSession (s : State) (straps : BitVec 2) (h : HostId) (cause : CloseCause) :
    Stages s (s.closeSession straps h cause) := by
  have torn : Stages (emptied s h cause) ((emptied s h cause).consentTeardown straps h) :=
    consentTeardown_cases straps (fun _ => .refl) (fun _ => stages_closeProposal ..) (fun _ => stages_adoptProposal ..)
      fun _ => stages_withProposal ..
  rw [closeSession_eq]
  exact .trans (.trans (.single (.close s h cause)) torn) (stages_clears (clears_endClosing ..))

theorem stages_handleDetach (s : State) (straps : BitVec 2) (h : HostId) (f : Frame) :
    Stages s (handleDetach straps h f s) :=
  stages_bodiless ((stages_closeSession s straps h .detached).trans (stages_respond ..))

/-! ### The request rows -/

/-- A request row does what its handling does, on the state after the taking; a kind that is not always served is handled for
an attached host alone (R186). -/
theorem stages_taking {s : State} {k : RequestKind} {handle : HostId → Frame → State → State}
    (handled : ∀ h f t, (k.servedAlways = false → t.attached h = true) → Stages t (handle h f t)) :
    Stages s (s.taking k handle) := by
  by_cases n : ∃ h f, Next k s h f
  · obtain ⟨h, f, n⟩ := n
    refine (stages_taken s h).trans ?_
    by_cases att : s.attached h = true
    · rw [taking_served ⟨n, att⟩]
      exact handled h f _ fun _ => by simpa using att
    · cases always : k.servedAlways with
      | true =>
        rw [taking_always n always]
        exact handled h f _ fun other => by simp [always] at other
      | false =>
        rw [taking_unattached n always (by simpa using att)]
        exact stages_refuse ..
  · rw [taking_otherwise fun h f m => n ⟨h, f, m⟩]

theorem stages_takingUnknown (s : State) : Stages s s.takingUnknown := by
  unfold State.takingUnknown
  split
  · exact .refl
  · split
    · rw [takeFrame_renewLease]
      exact (stages_taken ..).trans (stages_refuse ..)
    · exact .refl

/-! ### Every command -/

theorem stages_selectFall (s : State) (h : HostId) : Stages s (s.selectFall h) := by
  rw [State.selectFall_eq]
  split
  · exact stages_withPort ..
  · exact .refl

/-- Every command but a reset is a run of stages. -/
theorem stages_exec {i : Instr} {s t : State} (other : i.resets = false) (run : exec i s = .next t) : Stages s t := by
  cases i <;> cases run
  case powerOn | resetFall | resetRelease => cases other
  case startUpEnd | overdrawCountFull | idleFaultLimit =>
    split
    · exact stages_completeSlot ..
    · exact .refl
  case slotCompletion => exact stages_completeSlot ..
  case deratePinChange level =>
    split
    · exact .refl
    · dsimp only
      split <;> exact stages_beside { Beside.refl s with }
  case derateHoldExpiry =>
    split
    · exact .refl
    · next e _ =>
      have filtered : Stages (s.reach e) ((s.reach e).withFilter (!s.budget.derateTaken) none) :=
        stages_configure _ _ _ (.inl rfl)
      exact ((stages_reach s e).trans filtered).trans (stages_recompute ..)
  case rampTimerExpiry | graceTimerExpiry =>
    split
    · exact .refl
    · next e running => exact (stages_reach s e).trans (stages_trip (by simp [state_of_expiryOf running]) _)
  case holdoffTimerExpiry =>
    split
    · exact .refl
    · next e running =>
      exact ((stages_reach s e).trans (stages_turn (.retry (state_of_expiryOf running)))).trans (stages_postHolder ..)
  case dischargeTimerExpiry =>
    split
    · exact .refl
    · next e running =>
      exact (stages_reach s e).trans (stages_clears (clears_endToFaulted (by simp [state_of_expiryOf running])))
  case leaseExpiry =>
    split
    · split
      · exact .refl
      · exact (stages_reach ..).trans (stages_closeSession ..)
    · exact .refl
  case windowTimerExpiry =>
    split
    · exact .refl
    · exact (stages_reach ..).trans (stages_closeProposal ..)
  case blockingTimerExpiry =>
    split
    · exact .refl
    · next e timer => exact (stages_reach s e).tail (.block (s.reach e) e timer (Nat.le_max_right ..))
  case deadlineExpiry =>
    split
    · exact .refl
    · split
      · exact .refl
      · exact (stages_reach ..).trans (stages_clears (((clears_takeOut ..).trans (clears_post ..)).trans (clears_scanQueue _)))
  case status =>
    split
    · exact stages_selectFall ..
    · split <;> exact stages_withPort ..
  case unknownTransaction =>
    split
    · split
      · exact stages_selectFall ..
      · exact stages_withPort ..
    · exact .refl
  case request | peek =>
    split
    · exact stages_selectFall ..
    · exact stages_withPort ..
  case take =>
    split
    · exact stages_selectFall ..
    · exact stages_beside { Beside.refl s with }
  case outboxHeadFix =>
    split
    · exact .refl
    · exact stages_withPort ..
  case unknownRequestKind => exact stages_takingUnknown s
  case queryPart | renew | readSession | readBudget | readQueue | readProposal =>
    exact stages_taking fun h f t _ => stages_bodiless (stages_respond ..)
  case attach => exact stages_taking fun h f t _ => stages_handleAttach ..
  case detach => exact stages_taking fun h f t _ => stages_handleDetach ..
  case claim => exact stages_taking fun h f t att => stages_handleClaim f (att rfl)
  case cancel => exact stages_taking fun h f t _ => stages_handleCancel ..
  case resize => exact stages_taking fun h f t _ => stages_handleResize ..
  case release => exact stages_taking fun h f t _ => stages_handleRelease ..
  case clearTrip => exact stages_taking fun h f t _ => stages_handleClearTrip ..
  case readChannel => exact stages_taking fun h f t _ => stages_handleReadChannel ..
  case readTally => exact stages_taking fun h f t _ => stages_handleReadTally ..
  case readConfig => exact stages_taking fun h f t _ => stages_handleReadConfig ..
  case propose => exact stages_taking fun h f t _ => stages_handlePropose ..
  case consent => exact stages_taking fun h f t _ => stages_handleConsent ..
  case dissent => exact stages_taking fun h f t _ => stages_handleDissent ..
  case withdraw => exact stages_taking fun h f t _ => stages_handleWithdraw ..

/-- A law that sees nothing beside the stages, that holds after every reset, and that every stage keeps, is kept by every step. -/
theorem kept_of_stages {law : State → Prop} (started : ∀ s straps ports, law (started s straps ports))
    (fallen : ∀ s straps ports meas, law (fallen s straps ports meas))
    (stage : ∀ {s t}, Stage s t → law s → law t) : Kept law := by
  intro s t l run
  unfold step at run
  split at run
  · cases run
    exact stage (.beside { Beside.refl s with now := Nat.le_succ _ }) l
  · next i rest _ =>
    have l' : law { s with pending := rest } := stage (.beside { Beside.refl s with }) l
    cases kind : i.resets with
    | true =>
      rcases resets_cases kind run with rfl | ⟨straps, ports, rfl⟩ | ⟨-, straps, rfl⟩
      · exact l'
      · exact started ..
      · exact fallen ..
    | false =>
      have stages := stages_exec kind run
      clear run
      induction stages with
      | refl => exact l'
      | tail _ st ih => exact stage st ih

end Sys2Proof
end

section
/-! The laws of sessions and owners through every step (R41, R71, R126). -/

namespace Sys2Proof

open Machine

/-! ### The lease timer -/

theorem leaseLaw_of_same {s t : State} (law : LeaseLaw s) (lease : ∀ h, (t.session h).lease = (s.session h).lease)
    (attached : ∀ h, t.attached h = s.attached h) : LeaseLaw t := fun h => by
  rw [lease, attached]
  exact law h

theorem leaseLaw_move {s t : State} (law : LeaseLaw s) (m : Move s t) : LeaseLaw t := by
  cases m with
  | act a => exact leaseLaw_of_same law a.quiet.lease a.quiet.attached
  | place e => exact leaseLaw_of_same law (quiet_setEntries ..).lease (quiet_setEntries ..).attached
  | take h =>
    intro k
    rw [taken_session, taken_attached]
    split
    · next att =>
      obtain ⟨rfl, att⟩ := att
      exact att.symm
    · exact law k
  | _ => exact law

theorem leaseLaw_recompute {s : State} (law : LeaseLaw s) (k : BudgetCause) : LeaseLaw (s.recompute k) :=
  leaseLaw_of_same law (quiet_recompute s k).lease (quiet_recompute s k).attached

/-- A session changed keeps the law when the new record has a lease exactly in ATTACHED. -/
theorem leaseLaw_withSession {s : State} {h : HostId} {f : Session → Session} (law : LeaseLaw s)
    (fits : (f (s.session h)).lease.isSome = ((f (s.session h)).state == .attached)) : LeaseLaw (s.withSession h f) := by
  intro k
  rw [withSession_attached, State.withSession_session]
  split
  · next is => exact is ▸ fits
  · exact law k

theorem leaseLaw_effects {ch : Change} {s t : State} (law : LeaseLaw s) (effects : Effects ch s t) : LeaseLaw t := by
  induction effects with
  | refl => exact law
  | @tail u _ _ e ih =>
    cases e with
    | move m => exact leaseLaw_move ih m
    | level k => exact leaseLaw_recompute (s := { u with config := k }) ih .config
    | straps | config => exact ih

theorem leaseLaw_deed {s t : State} (law : LeaseLaw s) (d : Deed s t) : LeaseLaw t := by
  cases d with
  | move m => exact leaseLaw_move law m
  | round c => rw [State.countRound_eq]; exact law
  | derate e _ k => exact leaseLaw_recompute (s := s.withFilter _ none) law k
  | attach h => exact leaseLaw_withSession law rfl
  | depart h k att m => exact m.keeps (fun _ _ l a => leaseLaw_move l a) (leaseLaw_withSession law rfl)
  | adopt ch _ effects => exact leaseLaw_effects (s := s.withProposal none) law effects
  | _ => exact law

theorem leaseLaw_kept : Kept LeaseLaw := by
  have reset : LeaseLaw State.reset := by unfold LeaseLaw; decide
  refine kept_of_deeds (fun s p law => law) (fun i s t kind law run => ?_) fun s t law d => leaseLaw_deed law d
  rcases resets_cases kind run with rfl | ⟨straps, ports, rfl⟩ | ⟨-, straps, rfl⟩
  · exact law
  · exact reset
  · exact reset

/-! ### Owners and the hosts of entries -/

/-- Every waiting entry is of an attached host, the hosts that `out` picks left aside (R41). -/
def Attended (out : HostId → Prop) (s : State) : Prop := ∀ e ∈ s.queue.entries, ¬ out e.host → s.attached e.host = true

/-- The owner of a grant that is not DISCHARGING is attached in its epoch, the hosts that `out` picks left aside (R71). -/
def OwnersPresent (out : HostId → Prop) (s : State) : Prop :=
  ∀ c g, s.slot c = some g → ¬ out g.owner → (s.chan c).state ≠ .discharging → s.ownerPresent g = true

theorem ownershipLaw_iff (s : State) :
    OwnershipLaw s ↔ TableLaw s ∧ OwnersPresent (fun _ => False) s ∧ Attended (fun _ => False) s := by
  simp [OwnershipLaw, OwnerLaw, OwnersPresent, Attended]

theorem Attended.of_entries {out : HostId → Prop} {s t : State} (law : Attended out s)
    (entries : ∀ e ∈ t.queue.entries, e ∈ s.queue.entries) (attached : ∀ h, t.attached h = s.attached h) : Attended out t :=
  fun e m present => (attached _).trans (law e (entries e m) present)

theorem Attended.acts {out : HostId → Prop} {s t : State} (law : Attended out s) (a : Acts s t) : Attended out t :=
  a.keeps (fun _ _ law a => law.of_entries a.entries a.quiet.attached) law

theorem Attended.place {out : HostId → Prop} {s : State} {e : WaitEntry} (law : Attended out s)
    (att : s.attached e.host = true) : Attended out (s.place e) := fun x m present => by
  rw [place_entries, mem_placeEntry] at m
  rw [State.place, (quiet_setEntries ..).attached]
  rcases m with rfl | m
  · exact att
  · exact law x m present

theorem ownerPresent_of_same {s t : State} {g k : Grant} (owner : g.owner = k.owner) (epoch : g.epoch = k.epoch)
    (attached : ∀ h, t.attached h = s.attached h) (epochs : ∀ h, (t.session h).epoch = (s.session h).epoch) :
    t.ownerPresent g = s.ownerPresent k := by
  rw [State.ownerPresent, State.ownerPresent, attached, epochs, owner, epoch]

/-- Owners are present still when every grant that is not DISCHARGING was one before, or is new and its owner present. -/
theorem OwnersPresent.of_grants {out : HostId → Prop} {s t : State} (law : OwnersPresent out s)
    (quiet : Quiet s t) (grants : ∀ c g, t.slot c = some g → (t.chan c).state ≠ .discharging →
      (∃ k, s.slot c = some k ∧ g.owner = k.owner ∧ g.epoch = k.epoch ∧ (s.chan c).state ≠ .discharging) ∨
        (¬ out g.owner → s.ownerPresent g = true)) : OwnersPresent out t := by
  intro c g slot present state
  rw [ownerPresent_of_same rfl rfl quiet.attached quiet.epoch]
  rcases grants c g slot state with ⟨k, held, owner, epoch, state'⟩ | new
  · rw [ownerPresent_of_same owner epoch (fun _ => rfl) fun _ => rfl]
    exact law c k held (owner ▸ present) state'
  · exact new present

theorem OwnersPresent.of_same {out : HostId → Prop} {s t : State} (law : OwnersPresent out s) (quiet : Quiet s t)
    (slot : ∀ c, t.slot c = s.slot c) (chan : ∀ c, t.chan c = s.chan c) : OwnersPresent out t :=
  law.of_grants quiet fun c g held state => .inl ⟨g, slot c ▸ held, rfl, rfl, chan c ▸ state⟩

/-- The grants created for an entry are its host's, in the host's present epoch (R23). -/
theorem present_createGrants {e : WaitEntry} {c : ChanId} (is : List Item) : ∀ {s : State}, c ∈ is.map Item.channel →
    ∃ g, (s.createGrants e is).1.slot c = some g ∧ g.owner = e.host ∧ g.epoch = (s.session e.host).epoch := by
  induction is with
  | nil => exact fun named => absurd named List.not_mem_nil
  | cons i rest ih =>
    intro s named
    by_cases later : c ∈ rest.map Item.channel
    · obtain ⟨g, slot, owner, epoch⟩ := ih (s := s.createGrant e i) later
      exact ⟨g, slot, owner, epoch.trans ((quiet_createGrant s e i).epoch _)⟩
    · obtain rfl : c = i.channel := (List.mem_cons.1 named).resolve_right later
      exact ⟨s.grantFor e i, (createGrants_of_not_mem (e := e) rest later).1.trans (by simp), rfl, rfl⟩

theorem OwnersPresent.act {out : HostId → Prop} {s t : State} (law : OwnersPresent out s) (hosts : Attended out s) (a : Act s t) :
    OwnersPresent out t := by
  have quiet := a.quiet
  cases a with
  | post h n => exact law.of_same quiet (State.post_slot s h n) (State.post_chan s h n)
  | leave es =>
    have form := State.setEntries_eq s es
    exact law.of_same quiet (fun c => by rw [form]; rfl) fun c => by rw [form]; rfl
  | close h =>
    have form := endClosing_eq s h
    exact law.of_same quiet (fun c => by rw [form]; rfl) fun c => by rw [form]; rfl
  | admitEntry e mem =>
    refine law.of_grants quiet fun c g held state => ?_
    rw [admitEntry_eq] at held state
    by_cases named : c ∈ e.items.map Item.channel
    · obtain ⟨k, held', owner, epoch⟩ := present_createGrants (e := e) (s := s) e.items named
      cases held'.symm.trans held
      refine .inr fun present => ?_
      rw [owner] at present
      simp [State.ownerPresent, owner, epoch, hosts e mem present]
    · obtain ⟨slot, chan⟩ := createGrants_of_not_mem (e := e) (s := s) e.items named
      exact .inl ⟨g, slot ▸ held, rfl, rfl, chan ▸ state⟩
  | finish c g after =>
    refine law.of_grants quiet fun d k held state => .inl ⟨k, ?_⟩
    rw [removeGrant_slot] at held
    rw [removeGrant_chan] at state
    split at held
    · cases held
    · next other => exact ⟨held, rfl, rfl, by rwa [if_neg other] at state⟩
  | mark c k =>
    refine law.of_grants quiet fun d g held state => .inl ?_
    rw [State.markCause_slot] at held
    split at held
    · obtain ⟨j, slot, rfl⟩ := Option.map_eq_some_iff.1 held
      exact ⟨j, slot, rfl, rfl, state⟩
    · exact ⟨g, held, rfl, rfl, state⟩
  | discharge c g k =>
    refine law.of_grants quiet fun d j held state => .inl ⟨j, held, rfl, rfl, ?_⟩
    rw [startDischarge_chan] at state
    split at state
    · exact absurd rfl state
    · exact state
  | fault c idle =>
    refine law.of_grants quiet fun d j held state => .inl ⟨j, held, rfl, rfl, ?_⟩
    rw [State.withChannel_chan] at state
    split at state
    · next is => simp [is, idle]
    · exact state

theorem OwnersPresent.acts {out : HostId → Prop} {s t : State} (law : OwnersPresent out s) (hosts : Attended out s) (a : Acts s t) :
    OwnersPresent out t := by
  refine (a.keeps (law := fun s => OwnersPresent out s ∧ Attended out s) (fun s t both a => ?_) ⟨law, hosts⟩).1
  exact ⟨both.1.act both.2 a, both.2.acts (.single a)⟩

/-! ### What is alike -/

theorem Alike.table {s t : State} (a : Alike s t) : SameTable s t := ⟨a.isSome, a.vacant, a.admission, by simp [a.entries]⟩

theorem Alike.attended {out : HostId → Prop} {s t : State} (a : Alike s t) (law : Attended out s) : Attended out t :=
  law.of_entries (by simp [a.entries]) a.attached

theorem Alike.owned {out : HostId → Prop} {s t : State} (a : Alike s t) (law : OwnersPresent out s) : OwnersPresent out t := by
  intro c g slot present state
  obtain ⟨k, held, owner, epoch⟩ := a.owners c g slot
  rw [ownerPresent_of_same owner epoch a.attached a.epoch]
  exact law c k held (owner ▸ present) (mt (a.discharging c).2 state)

theorem judge_entries (now age : Nat) (q : WaitQueue) : (q.judge now age).entries = q.entries := by
  unfold WaitQueue.judge
  split
  · rfl
  · split_ifs <;> rfl

/-- Blocking is judged and expires beside owners and entries. -/
theorem alike_block (s : State) (blocking : Bool) (timer : Option Nat) :
    Alike s { s with queue := { s.queue with headBlocking := blocking, blockingTimer := timer } } := { Alike.refl s with }

theorem alike_age (s : State) (k : Configuration) : Alike s (s.withConfig fun _ => k).judgeHead :=
  { Alike.refl s with entries := judge_entries .. }

/-! ### A session closes -/

theorem justClosed_attached (s : State) (h k : HostId) (cause : CloseCause) :
    (justClosed s h cause).attached k = (s.attached k && k != h) := attached_closing s h k cause

theorem justClosed_epoch (s : State) (h k : HostId) (cause : CloseCause) :
    ((justClosed s h cause).session k).epoch = (s.session k).epoch := by
  change ((s.withSession h _).session k).epoch = _
  rw [State.withSession_session]
  split <;> rfl

/-- As a session closes its host's entries go, and those of the others are of attached hosts still (R66). -/
theorem attended_emptied {s : State} (h : HostId) (cause : CloseCause) (law : Attended (fun _ => False) s) :
    Attended (fun _ => False) (emptied s h cause) := by
  have closed : Attended (· = h) (justClosed s h cause) := fun e m other => by
    rw [justClosed_attached, law e m id]
    simpa using other
  have waits : Unqueued h (emptied s h cause) := ((departing_queueTeardown s h cause).acts (acts_releaseAll ..)).waits
  exact fun e m _ => closed.acts (acts_emptied ..) e m (waits e m)

/-- As a session closes its host's grants all discharge, and those of the others keep their owners (R34, R71). -/
theorem owned_emptied {s : State} (h : HostId) (cause : CloseCause) (table : TableLaw s) (law : OwnersPresent (fun _ => False) s)
    (hosts : Attended (fun _ => False) s) : OwnersPresent (fun _ => False) (emptied s h cause) := by
  have closedHosts : Attended (· = h) (justClosed s h cause) := fun e m other => by
    rw [justClosed_attached, hosts e m id]
    simpa using other
  have closed : OwnersPresent (· = h) (justClosed s h cause) := fun c g slot other state => by
    have present := law c g slot id state
    rw [State.ownerPresent, Bool.and_eq_true] at present ⊢
    rw [justClosed_attached, justClosed_epoch, present.1]
    exact ⟨by simpa using other, present.2⟩
  have quits := (departing_emptied s h cause table).quits
  intro c g slot _ state
  exact closed.acts closedHosts (acts_emptied ..) c g slot (fun own => state (quits c trivial g slot own)) state

/-! ### Every step -/

theorem tableLaw_acts {s t : State} (a : Acts s t) (law : TableLaw s) : TableLaw t :=
  a.keeps (fun _ _ l a => tableLaw_act a l) law

theorem ownershipLaw_alike {s t : State} (a : Alike s t) (law : OwnershipLaw s) : OwnershipLaw t := by
  obtain ⟨table, owned, hosts⟩ := (ownershipLaw_iff s).1 law
  exact (ownershipLaw_iff t).2 ⟨a.table.tableLaw table, a.owned owned, a.attended hosts⟩

theorem ownershipLaw_acts {s t : State} (a : Acts s t) (law : OwnershipLaw s) : OwnershipLaw t := by
  obtain ⟨table, owned, hosts⟩ := (ownershipLaw_iff s).1 law
  exact (ownershipLaw_iff t).2 ⟨tableLaw_acts a table, owned.acts hosts a, hosts.acts a⟩

theorem ownershipLaw_place {s : State} {e : WaitEntry} (new : Placeable s e) (law : OwnershipLaw s) :
    OwnershipLaw (s.place e) := by
  obtain ⟨table, owned, hosts⟩ := (ownershipLaw_iff s).1 law
  refine (ownershipLaw_iff _).2 ⟨tableLaw_place new.distinct table, ?_, hosts.place new.attached⟩
  refine owned.of_same (quiet_setEntries ..) ?_ ?_ <;>
    (rw [State.place, State.setEntries_eq]; exact fun _ => rfl)

theorem openSession_attached (s : State) (h k : HostId) :
    (s.openSession h).attached k = if k = h then true else s.attached k := by
  change (s.withSession h _).attached k = _
  rw [withSession_attached]
  rfl

/-- A session that opens has no grant but DISCHARGING ones and no entry, and every other stands as it stood. -/
theorem ownershipLaw_attach {s : State} {h : HostId} (state : (s.session h).state = .detached) (law : OwnershipLaw s) :
    OwnershipLaw (s.openSession h) := by
  obtain ⟨table, owners, hosts⟩ := law
  have out : s.attached h = false := by simp [State.attached, state]
  refine ⟨table, fun c g slot firm => ?_, fun e m => ?_⟩
  · have present := owners c g slot firm
    rw [State.ownerPresent, Bool.and_eq_true] at present ⊢
    have other : g.owner ≠ h := fun own => by simp [own, out] at present
    rw [openSession_attached, if_neg other]
    refine ⟨present.1, ?_⟩
    change (((s.withSession h _).session g.owner).epoch == g.epoch) = true
    rw [State.withSession_session, if_neg other]
    exact present.2
  · rw [openSession_attached]
    split
    · rfl
    · exact hosts e m

theorem ownershipLaw_stage {s t : State} (st : Stage s t) (law : OwnershipLaw s) : OwnershipLaw t := by
  cases st with
  | acts c => exact ownershipLaw_acts c.acts law
  | beside b => exact ownershipLaw_alike b.toAlike law
  | place e new => exact ownershipLaw_place new law
  | once e new c => exact ownershipLaw_acts c.acts (ownershipLaw_place new law)
  | block => exact ownershipLaw_alike (alike_block ..) law
  | age k => exact ownershipLaw_alike (alike_age ..) law
  | attach h state => exact ownershipLaw_attach state law
  | close h cause =>
    obtain ⟨table, owned, hosts⟩ := (ownershipLaw_iff s).1 law
    exact (ownershipLaw_iff _).2 ⟨tableLaw_acts (acts_emptied s h cause) (s := justClosed s h cause) table,
      owned_emptied h cause table owned hosts, attended_emptied h cause hosts⟩

/-- Settles O13: owners and entries by the stages of a step, the lease timer by its deeds. -/
theorem sessionLawsKept : Obligations.SessionLawsKept := by
  obtain ⟨-, -, -, -, -, -, -, -, -, -, -, -, -, -, ownership, -⟩ := resetStateIsPowerOnsAndMeetsEveryLaw
  exact ⟨kept_of_stages (fun _ _ _ => ownership) (fun _ _ _ _ => ownership) ownershipLaw_stage, leaseLaw_kept⟩

end Sys2Proof
end

section
/-! The laws of the wait queue through every step: its capacity and order (R41, R45), what its entries name (R42, R44) and the
judgement of its head (R54, R55). -/

namespace Sys2Proof

open Machine

/-! ### Capacity and order -/

/-- A queue within its capacities and in order of priority (R41). -/
structure Orderly (es : List WaitEntry) : Prop where
  length : es.length ≤ Config.queueCapacity
  each : ∀ h, es.countP (·.host == h) ≤ Config.queuePerHost
  sorted : es.Pairwise fun a b => b.priority ≤ a.priority

theorem queueLaw_iff (s : State) : QueueLaw s ↔ Orderly s.queue.entries ∧ Attended (fun _ => False) s := by
  constructor
  · rintro ⟨length, each, sorted, hosts⟩
    exact ⟨⟨length, each, sorted⟩, fun e m _ => hosts e m⟩
  · rintro ⟨⟨length, each, sorted⟩, hosts⟩
    exact ⟨length, each, sorted, fun e m => hosts e m id⟩

theorem Orderly.sublist {now es : List WaitEntry} (law : Orderly es) (sub : now.Sublist es) : Orderly now where
  length := sub.length_le.trans law.length
  each h := (sub.countP_le).trans (law.each h)
  sorted := law.sorted.sublist sub

/-- An entry that finds room keeps the queue within its capacities (R41, R45). -/
theorem Orderly.place {s : State} {e : WaitEntry} (law : Orderly s.queue.entries) (room : s.queueFull e.host = false) :
    Orderly (placeEntry e s.queue.entries) := by
  have perm := placeEntry_perm e s.queue.entries
  rw [State.queueFull, Bool.or_eq_false_iff, decide_eq_false_iff_not, decide_eq_false_iff_not, Nat.not_le, Nat.not_le] at room
  obtain ⟨few, fewOwn⟩ := room
  refine ⟨?_, fun h => ?_, sorted_placeEntry law.sorted⟩
  · rw [perm.length_eq]
    exact few
  · rw [perm.countP_eq, List.countP_cons]
    split
    · next own => rw [← eq_of_beq own]; exact fewOwn
    · exact law.each h

theorem queueLaw_acts {s t : State} (a : Acts s t) (law : QueueLaw s) : QueueLaw t := by
  obtain ⟨orderly, hosts⟩ := (queueLaw_iff s).1 law
  exact (queueLaw_iff t).2 ⟨orderly.sublist (entries_of_acts a), hosts.acts a⟩

theorem queueLaw_alike {s t : State} (a : Alike s t) (law : QueueLaw s) : QueueLaw t := by
  obtain ⟨orderly, hosts⟩ := (queueLaw_iff s).1 law
  exact (queueLaw_iff t).2 ⟨a.entries ▸ orderly, a.attended hosts⟩

theorem queueLaw_stage {s t : State} (st : Stage s t) (law : QueueLaw s) : QueueLaw t := by
  obtain ⟨orderly, hosts⟩ := (queueLaw_iff s).1 law
  cases st with
  | acts c => exact queueLaw_acts c.acts law
  | beside b => exact queueLaw_alike b.toAlike law
  | place e new room =>
    refine (queueLaw_iff _).2 ⟨?_, hosts.place new.attached⟩
    rw [place_entries]
    exact orderly.place room
  | once e new c out => exact (queueLaw_iff _).2 ⟨orderly.sublist out, (hosts.place new.attached).acts c.acts⟩
  | block => exact queueLaw_alike (alike_block ..) law
  | age k => exact queueLaw_alike (alike_age ..) law
  | attach h =>
    refine (queueLaw_iff _).2 ⟨orderly, fun e m _ => ?_⟩
    rw [openSession_attached]
    split
    · rfl
    · exact hosts e m id
  | close h cause =>
    exact (queueLaw_iff _).2
      ⟨orderly.sublist (entries_of_acts (acts_emptied ..) (s := justClosed s h cause)), attended_emptied h cause hosts⟩

/-! ### What entries name -/

/-- Two entries that may wait together: of one host, they carry different tags and name no channel in common (R44). -/
def Apart (a b : WaitEntry) : Prop :=
  a.host = b.host → a.tag ≠ b.tag ∧ ∀ i ∈ a.items, ∀ j ∈ b.items, i.channel ≠ j.channel

theorem Apart.symm {a b : WaitEntry} (apart : Apart a b) : Apart b a := fun same => by
  obtain ⟨tags, channels⟩ := apart same.symm
  exact ⟨tags.symm, fun i mi j mj => (channels j mj i mi).symm⟩

/-- No entry names a channel that its own host holds (R42). -/
def Unheld (s : State) : Prop := ∀ e ∈ s.queue.entries, ∀ i ∈ e.items, s.holds e.host i.channel = false

/-- No entry names a FAULTED channel (R42). -/
def Sound (s : State) : Prop := ∀ e ∈ s.queue.entries, ∀ i ∈ e.items, (s.chan i.channel).state ≠ .faulted

theorem namingLaw_iff (s : State) : NamingLaw s ↔ s.queue.entries.Pairwise Apart ∧ Unheld s ∧ Sound s := by
  constructor
  · rintro ⟨apart, named⟩
    exact ⟨apart, fun e m i mi => (named e m i mi).1, fun e m i mi => (named e m i mi).2⟩
  · rintro ⟨apart, unheld, sound⟩
    exact ⟨apart, fun e m i mi => ⟨unheld e m i mi, sound e m i mi⟩⟩

theorem Unheld.of_holds {s t : State} (law : Unheld s) (entries : ∀ e ∈ t.queue.entries, e ∈ s.queue.entries)
    (holds : ∀ h c, s.holds h c = false → t.holds h c = false) : Unheld t :=
  fun e m i mi => holds _ _ (law e (entries e m) i mi)

theorem Unheld.of_slot {s t : State} (law : Unheld s) (entries : ∀ e ∈ t.queue.entries, e ∈ s.queue.entries)
    (slot : ∀ c, t.slot c = s.slot c) : Unheld t :=
  law.of_holds entries fun h c none => (holds_congr (slot c) h).trans none

/-- The entry admitted takes channels that no other entry of its host names. -/
theorem unheld_admitEntry {s : State} {e : WaitEntry} (apart : s.queue.entries.Pairwise Apart) (law : Unheld s)
    (mem : e ∈ s.queue.entries) : Unheld (s.admitEntry e).1 := by
  have others := (List.pairwise_cons.1 (((List.perm_cons_erase mem).pairwise_iff Apart.symm).1 apart)).1
  intro x m i mi
  rw [State.admit_entries] at m
  have slot : (s.admitEntry e).1.slot i.channel = (s.createGrants e e.items).1.slot i.channel := by
    rw [admitEntry_eq]
    rfl
  rw [holds_congr slot]
  by_cases named : i.channel ∈ e.items.map Item.channel
  · obtain ⟨g, held, owner⟩ := owner_createGrants (e := e) (s := s) e.items named
    rw [holds_of_slot held, owner]
    by_contra own
    obtain ⟨j, mj, same⟩ := List.mem_map.1 named
    exact (others x m (by simpa using own)).2 j mj i mi same
  · rw [holds_congr (createGrants_of_not_mem (e := e) (s := s) e.items named).1]
    exact law x (List.mem_of_mem_erase m) i mi

theorem unheld_act {s t : State} (apart : s.queue.entries.Pairwise Apart) (law : Unheld s) (a : Act s t) : Unheld t := by
  have entries := a.entries
  cases a with
  | post h n => exact law.of_slot entries (State.post_slot s h n)
  | leave es =>
    have form := State.setEntries_eq s es
    exact law.of_slot entries fun c => by rw [form]; rfl
  | close h =>
    have form := endClosing_eq s h
    exact law.of_slot entries fun c => by rw [form]; rfl
  | admitEntry e mem => exact unheld_admitEntry apart law mem
  | finish c g after =>
    refine law.of_holds entries fun h d none => ?_
    by_cases here : d = c
    · exact holds_of_empty (by rw [removeGrant_slot, if_pos here]) h
    · exact (holds_congr ((removeGrant_slot ..).trans (if_neg here)) h).trans none
  | mark c k =>
    refine law.of_holds entries fun h d none => ?_
    cases slot : s.slot d with
    | none => exact holds_of_empty (by simp [State.markCause_slot, slot]) h
    | some g =>
      rw [holds_of_slot slot] at none
      by_cases here : d = c
      · have marked : (s.markCause c k).slot d = some { g with cause := some k } := by
          rw [State.markCause_slot, if_pos here, slot]
          rfl
        exact (holds_of_slot marked h).trans none
      · exact (holds_of_slot (by rw [State.markCause_slot, if_neg here, slot]) h).trans none
  | discharge | fault => exact law

theorem namingLaw_clears {s t : State} (c : Clears s t) (law : NamingLaw s) : NamingLaw t := by
  obtain ⟨apart, unheld, sound⟩ := (namingLaw_iff s).1 law
  have sub := entries_of_acts c.acts
  have both := c.acts.keeps (law := fun s => s.queue.entries.Pairwise Apart ∧ Unheld s)
    (fun _ _ both a => ⟨both.1.sublist (entries_of_acts (.single a)), unheld_act both.1 both.2 a⟩) ⟨apart, unheld⟩
  refine (namingLaw_iff t).2 ⟨both.1, both.2, fun e m i mi state => ?_⟩
  rcases c.faults i.channel state with before | unnamed
  · exact sound e (sub.subset m) i mi before
  · simpa [WaitEntry.names] using List.any_eq_false.1 (unnamed e m) i mi

theorem Alike.holds {s t : State} (a : Alike s t) {h : HostId} {c : ChanId} (none : s.holds h c = false) :
    t.holds h c = false := by
  cases slot : t.slot c with
  | none => exact holds_of_empty slot h
  | some g =>
    obtain ⟨k, held, owner, -⟩ := a.owners c g slot
    rw [holds_of_slot slot, owner]
    exact (holds_of_slot held h).symm.trans none

theorem namingLaw_alike {s t : State} (a : Alike s t) (law : NamingLaw s) : NamingLaw t := by
  obtain ⟨apart, unheld, sound⟩ := (namingLaw_iff s).1 law
  refine (namingLaw_iff t).2 ⟨a.entries ▸ apart, unheld.of_holds (by simp [a.entries]) fun _ _ => a.holds,
    fun e m i mi state => ?_⟩
  exact sound e (a.entries ▸ m) i mi (a.faulted _ state)

theorem namingLaw_place {s : State} {e : WaitEntry} (new : Placeable s e) (law : NamingLaw s) : NamingLaw (s.place e) := by
  obtain ⟨apart, named⟩ := law
  have placed : (placeEntry e s.queue.entries).Pairwise Apart :=
    ((placeEntry_perm e s.queue.entries).pairwise_iff Apart.symm).2
      (List.pairwise_cons.2 ⟨fun x m => Apart.symm (new.fresh x m), apart⟩)
  have form : s.place e = { s with queue := (s.place e).queue } := State.setEntries_eq ..
  refine ⟨by rw [place_entries]; exact placed, fun x m i mi => ?_⟩
  rw [place_entries, mem_placeEntry] at m
  have before : s.holds x.host i.channel = false ∧ (s.chan i.channel).state ≠ .faulted := by
    rcases m with rfl | m
    · exact new.allowed i mi
    · exact named x m i mi
  rw [form]
  exact before

theorem namingLaw_stage {s t : State} (st : Stage s t) (law : NamingLaw s) : NamingLaw t := by
  cases st with
  | acts c => exact namingLaw_clears c law
  | beside b => exact namingLaw_alike b.toAlike law
  | place e new => exact namingLaw_place new law
  | once e new c => exact namingLaw_clears c (namingLaw_place new law)
  | block => exact namingLaw_alike (alike_block ..) law
  | age k => exact namingLaw_alike (alike_age ..) law
  | attach h => exact law
  | close h cause => exact namingLaw_clears (clears_emptied ..) (s := justClosed s h cause) law

/-! ### The judgement of the head -/

/-- The head as R54's table has it, the head and the blocking age given. -/
def Judged (now age : Nat) (head : Option WaitEntry) (blocking : Bool) (timer : Option Nat) : Prop :=
  head.elim (blocking = false ∧ timer = none) fun e =>
    if age = 0 then blocking = false ∧ timer = none
    else
      (blocking = true ∧ timer = none ∧ ms age ≤ now - e.born) ∨ (blocking = false ∧ timer = some (e.born + ms age))

theorem blockingLaw_iff (s : State) : BlockingLaw s ↔
    Judged s.now s.config.blockingAge s.queue.entries.head? s.queue.headBlocking s.queue.blockingTimer := by
  unfold BlockingLaw Judged
  cases s.queue.entries <;> rfl

/-- A head that has waited the blocking age has waited it at every later instant. -/
theorem Judged.later {now later age : Nat} {head : Option WaitEntry} {blocking : Bool} {timer : Option Nat}
    (law : Judged now age head blocking timer) (le : now ≤ later) : Judged later age head blocking timer := by
  cases head with
  | none => exact law
  | some e =>
    simp only [Judged, Option.elim_some] at law ⊢
    split at law
    · next zero => rwa [if_pos zero]
    · next age =>
      rw [if_neg age]
      exact law.imp_left fun ⟨blocks, stopped, waited⟩ => ⟨blocks, stopped, waited.trans (Nat.sub_le_sub_right le _)⟩

/-- A head judged afresh stands as R54's table has it. -/
theorem blockingLaw_judgeHead (s : State) : BlockingLaw s.judgeHead := by
  rw [blockingLaw_iff]
  change Judged s.now s.config.blockingAge (s.queue.judge s.now s.config.blockingAge).entries.head? _ _
  rw [judge_entries]
  change Judged _ _ _ (s.queue.judge s.now s.config.blockingAge).headBlocking
    (s.queue.judge s.now s.config.blockingAge).blockingTimer
  unfold WaitQueue.judge
  cases s.queue.entries with
  | nil => exact ⟨rfl, rfl⟩
  | cons e rest =>
    simp only [Judged, List.head?_cons, Option.elim_some]
    by_cases zero : s.config.blockingAge = 0
    · simp [zero]
    · by_cases waited : ms s.config.blockingAge ≤ s.now - e.born <;> simp [zero, waited]

theorem blockingLaw_setEntries {s : State} (es : List WaitEntry) (law : BlockingLaw s) : BlockingLaw (s.setEntries es) := by
  by_cases head : es.head? = s.queue.entries.head?
  · rw [setEntries_of_head head]
    rw [blockingLaw_iff] at law ⊢
    exact head ▸ law
  · rw [State.setEntries]
    dsimp only
    rw [if_neg head]
    exact blockingLaw_judgeHead _

theorem blockingLaw_of_same {s t : State} (law : BlockingLaw s) (queue : t.queue = s.queue) (now : t.now = s.now)
    (config : t.config = s.config) : BlockingLaw t := by
  rw [blockingLaw_iff] at law ⊢
  rw [queue, now, config]
  exact law

theorem blockingLaw_act {s t : State} (law : BlockingLaw s) (a : Act s t) : BlockingLaw t := by
  have quiet := a.quiet
  have kept (queue : t.queue = s.queue) : BlockingLaw t := blockingLaw_of_same law queue quiet.now quiet.config
  cases a with
  | post => exact kept (State.post_queue ..)
  | leave es => exact blockingLaw_setEntries es law
  | admitEntry e =>
    have created := quiet_createGrants s e e.items
    exact blockingLaw_setEntries _ (blockingLaw_of_same law (State.createGrants_queue ..) created.now created.config)
  | finish => exact kept (removeGrant_queue ..)
  | close h => exact kept (by rw [endClosing_eq])
  | mark | discharge | fault => exact law

theorem blockingLaw_acts {s t : State} (a : Acts s t) (law : BlockingLaw s) : BlockingLaw t :=
  a.keeps (fun _ _ law a => blockingLaw_act law a) law

theorem Beside.blockingLaw {s t : State} (b : Beside s t) (law : BlockingLaw s) : BlockingLaw t := by
  rw [blockingLaw_iff] at law ⊢
  rw [b.entries, b.headBlocking, b.blockingTimer]
  rcases b.age with same | empty
  · rw [same]
    exact law.later b.now
  · rw [empty] at law ⊢
    exact law

/-- The timer runs to the instant at which the head has waited the blocking age. -/
theorem blockingLaw_block {s : State} {e : Nat} (timer : s.queue.blockingTimer = some e) (due : e ≤ s.now)
    (law : BlockingLaw s) :
    BlockingLaw { s with queue := { s.queue with headBlocking := true, blockingTimer := none } } := by
  rw [blockingLaw_iff] at law ⊢
  rw [timer] at law
  change Judged s.now s.config.blockingAge s.queue.entries.head? true none
  cases head : s.queue.entries.head? with
  | none => simp [head, Judged] at law
  | some x =>
    simp only [head, Judged, Option.elim_some] at law ⊢
    split at law
    · cases law.2
    · next age =>
      rw [if_neg age]
      rcases law with ⟨-, stopped, -⟩ | ⟨-, runs⟩
      · cases stopped
      · cases runs
        simp only [true_and]
        omega

theorem blockingLaw_stage {s t : State} (st : Stage s t) (law : BlockingLaw s) : BlockingLaw t := by
  cases st with
  | acts c => exact blockingLaw_acts c.acts law
  | beside b => exact b.blockingLaw law
  | place e => exact blockingLaw_setEntries _ law
  | once e _ c => exact blockingLaw_acts c.acts (blockingLaw_setEntries _ law)
  | block e timer due => exact blockingLaw_block timer due law
  | age k => exact blockingLaw_judgeHead _
  | attach h => exact law
  | close h cause => exact blockingLaw_acts (acts_emptied s h cause) (s := justClosed s h cause) law

/-! ### Every step -/

/-- Settles O25: each of the three laws is kept by every stage of a step. -/
theorem queueAndBlockingLawsKept : Obligations.QueueAndBlockingLawsKept := by
  obtain ⟨-, -, -, -, -, -, -, -, -, queue, naming, -⟩ := resetStateIsPowerOnsAndMeetsEveryLaw
  exact ⟨kept_of_stages (fun _ _ _ => queue) (fun _ _ _ _ => queue) queueLaw_stage,
    kept_of_stages (fun _ _ _ => ⟨rfl, rfl⟩) (fun _ _ _ _ => ⟨rfl, rfl⟩) blockingLaw_stage,
    kept_of_stages (fun _ _ _ => naming) (fun _ _ _ _ => naming) namingLaw_stage⟩

end Sys2Proof
end

section
/-! The channel sequencer's notices to the holder of a channel, its trips (R78, R80, R81, R90, R105, R107) and the end of the
holdoff (R83). -/

namespace Sys2Proof

open Machine

/-! ### Notices to the holder of a channel -/

/-- A notice to the holder of a channel changes the outboxes alone. -/
theorem postHolder_eq (s : State) (c : ChanId) (n : Grant → Notice) :
    s.postHolder c n = { s with outboxes := (s.postHolder c n).outboxes } := by
  unfold State.postHolder
  split
  · rfl
  · exact State.postOwner_eq ..

/-- A notice to the holder of a channel reaches the owner of its grant under R30's condition. -/
theorem postHolder_outbox {s : State} {c : ChanId} {g : Grant} (slot : s.slot c = some g) (n : Grant → Notice) (h : HostId) :
    (s.postHolder c n).outbox h =
      if g.owner = h ∧ s.ownerPresent g = true then arrive (n g) (s.outbox h) else s.outbox h := by
  rw [State.postHolder, slot]
  exact postOwner_outbox ..

/-- A notice to the holder of a channel is the same whatever else the state has. -/
theorem postHolder_outboxes_congr {s t : State} {c : ChanId} (slot : t.slot c = s.slot c) (sessions : t.sessions = s.sessions)
    (boxes : t.outboxes = s.outboxes) (n : Grant → Notice) : (t.postHolder c n).outboxes = (s.postHolder c n).outboxes := by
  have box (h : HostId) : t.outbox h = s.outbox h := by simp [State.outbox, boxes]
  cases held : s.slot c with
  | none => simp [State.postHolder, slot, held, boxes]
  | some g =>
    refine Table.ext_read fun h => (postHolder_outbox (slot.trans held) n h).trans ?_
    rw [ownerPresent_congr sessions, box]
    exact (postHolder_outbox held n h).symm

/-! ### The end of the holdoff -/

/-- The expiry of a timer that runs in its state. -/
theorem expiryOf_eq_some {s : State} {c : ChanId} {k : TimerKind} {st : ChanState} {e : Nat} (state : (s.chan c).state = st)
    (timer : (s.chan c).timer = some { kind := k, expiry := e }) : s.expiryOf c k st = some e := by
  simp [State.expiryOf, timer, state]

/-- A notice to the holder of a channel whose owner is present. -/
theorem postHolder_of_present {s : State} {c : ChanId} {g : Grant} (slot : s.slot c = some g)
    (present : s.ownerPresent g = true) (n : Grant → Notice) :
    s.postHolder c n = s.withOutbox g.owner (arrive (n g)) := by
  simp only [State.postHolder, slot, State.postOwner, if_pos present, State.post,
    if_pos (attached_of_ownerPresent present)]

/-- Settles O34: the expiry found, and its one notice to an owner who is present. -/
theorem holdoffExpiryStartsARetry : Obligations.HoldoffExpiryStartsARetry := by
  intro s c g e slot present state timer
  have run : exec (.holdoffTimerExpiry c) s = .next
      (((s.reach e).withChannel c fun ch => { ch with state := .checking, timer := none, retries := ch.retries + 1 })
        |>.postHolder c fun g => .channelRetry c g.number ((s.chan c).retries + 1)) := by
    simp only [exec, execHoldoffTimerExpiry, expiryOf_eq_some state timer]
  rw [run]
  refine congrArg _ ((postHolder_of_present (g := g) ?_ ?_ _).trans rfl)
  · exact slot
  · exact present

/-! ### What a sample records -/

/-- The records of a sample are channel c's own. -/
theorem sampled_measure_of_ne (s : State) {c d : ChanId} (other : d ≠ c) (r : Reading) :
    (sampled s c r).measure d = s.measure d := by
  unfold sampled State.tallySample
  split
  all_goals simp [State.withMeasure_measure, other]

/-- The slot completion of the channel in progress, by its verdict (R72, R109). -/
theorem completeSlot_of_verdict {s : State} {sc : Scan} {c : ChanId} {r : Reading} {v : Verdict} (scan : s.scan = some sc)
    (here : sc.slot = c) (is : s.verdict c (sampleOf r) = v) :
    s.completeSlot c r =
      ((sampled (s.advanceScan sc) c (sampleOf r)).sampleArrival c (outputOff (sampleOf r))
        (outputGood (s.settings c).pgInput (sampleOf r)) v).countRound c := by
  subst is
  rw [State.completeSlot_of_slot scan here]
  rfl

/-! ### Trips -/

/-- The record of a channel that trips, by the retries left (R81). -/
theorem tripped_eq (ch : Channel) (limit expiry : Nat) :
    ch.tripped (decide (limit ≤ ch.retries)) expiry =
      { ch with
        state := if ch.retries < limit then .holdoff else .latched
        gate := false
        timer := if ch.retries < limit then some { kind := .holdoff, expiry := expiry } else none } := by
  by_cases left : ch.retries < limit
  · simp [Channel.tripped, left]
  · simp [Channel.tripped, left, Nat.le_of_not_lt left]

/-- The state a trip leaves: the channel's record, its overdraw count, and the notice to the holder (R81). -/
theorem trip_eq (s : State) (c : ChanId) (k : TripCause) :
    s.trip c k =
      { s with
        channels := s.channels.upd c (Channel.tripped (s.tripsToLatched c) (s.now + ms (s.settings c).holdoff))
        meas := s.meas.upd c fun m => { m with overdraw := 0 }
        outboxes := (s.trip c k).outboxes } := by
  unfold State.trip
  rw [postHolder_eq]
  rfl

theorem trip_chan (s : State) (c d : ChanId) (k : TripCause) :
    (s.trip c k).chan d =
      if d = c then (s.chan c).tripped (s.tripsToLatched c) (s.now + ms (s.settings c).holdoff) else s.chan d := by
  rw [trip_eq]
  refine (Table.read_upd ..).trans ?_
  split
  · next is => rw [is]; rfl
  · rfl

theorem trip_measure (s : State) (c d : ChanId) (k : TripCause) :
    (s.trip c k).measure d = if d = c then { s.measure d with overdraw := 0 } else s.measure d := by
  rw [trip_eq]
  exact Table.read_upd ..

/-- CHANNEL_TRIPPED goes to the owner of the grant under R30's condition (R90). -/
theorem trip_outbox {s : State} {c : ChanId} {g : Grant} (slot : s.slot c = some g) (k : TripCause) (h : HostId) :
    (s.trip c k).outbox h =
      if g.owner = h ∧ s.ownerPresent g = true then
        arrive (.channelTripped c g.number k (decide ((s.settings c).retryLimit ≤ (s.chan c).retries)) (s.chan c).retries)
          (s.outbox h)
      else s.outbox h := by
  unfold State.trip
  refine (postHolder_outbox (g := g) ?_ _ h).trans rfl
  exact slot

/-- What a trip of channel c at an instant leaves, at a sample or at the expiry of a timer. -/
def TrippedAt (s : State) (c : ChanId) (g : Grant) (now : Nat) (cause : TripCause) (t : State) : Prop :=
  t.chan c =
    { s.chan c with
      state := if (s.chan c).retries < (s.settings c).retryLimit then .holdoff else .latched
      gate := false
      timer :=
        if (s.chan c).retries < (s.settings c).retryLimit then
          some { kind := .holdoff, expiry := now + ms (s.settings c).holdoff }
        else none } ∧
  (t.measure c).overdraw = 0 ∧ (∀ d, d ≠ c → t.chan d = s.chan d ∧ t.measure d = s.measure d) ∧
  (∀ h, t.outbox h =
    if g.owner = h ∧ s.ownerPresent g = true then
      arrive (.channelTripped c g.number cause (decide ((s.settings c).retryLimit ≤ (s.chan c).retries))
        (s.chan c).retries) (s.outbox h)
    else s.outbox h) ∧
  t = { s with
        now := now
        scan := t.scan
        rounds := t.rounds
        ready := t.ready
        tallies := t.tallies
        meas := t.meas
        channels := t.channels
        outboxes := t.outboxes }

/-- A trip on a state in which an event has moved time, scan, tallies and the record of channel c alone. -/
theorem trippedAt_trip {s p : State} {c : ChanId} {g : Grant} {now : Nat} (slot : s.slot c = some g)
    (moved : p = { s with now := now, scan := p.scan, meas := p.meas, tallies := p.tallies })
    (others : ∀ d, d ≠ c → p.measure d = s.measure d) (cause : TripCause) {t : State}
    (counted : t = { p.trip c cause with rounds := t.rounds, ready := t.ready }) : TrippedAt s c g now cause t := by
  have chan (d : ChanId) : p.chan d = s.chan d := by rw [moved]; rfl
  have settings : p.settings c = s.settings c := by rw [moved]; rfl
  have time : p.now = now := by rw [moved]
  have chanT (d : ChanId) : t.chan d = (p.trip c cause).chan d := by rw [counted]; rfl
  have measT (d : ChanId) : t.measure d = (p.trip c cause).measure d := by rw [counted]; rfl
  refine ⟨?own, ?count, fun d ne => ⟨?_, ?_⟩, fun h => ?told, ?frame⟩
  case own =>
    rw [chanT, trip_chan, if_pos rfl, State.tripsToLatched, chan, settings, time]
    exact tripped_eq ..
  case count => rw [measT, trip_measure, if_pos rfl]
  · rw [chanT, trip_chan, if_neg ne, chan]
  · rw [measT, trip_measure, if_neg ne, others d ne]
  case told =>
    have slotP : p.slot c = some g := by rw [moved]; exact slot
    have present : p.ownerPresent g = s.ownerPresent g := ownerPresent_congr (by rw [moved]) g
    have box : p.outbox h = s.outbox h := by rw [moved]; rfl
    have boxT : t.outbox h = (p.trip c cause).outbox h := by rw [counted]; rfl
    rw [boxT, trip_outbox slotP, present, box, chan, settings]
  case frame =>
    rw [trip_eq, moved] at counted
    rw [counted]

/-! ### The verdicts of R105 and R107 -/

theorem severe_iff {ceiling : Nat} {x : Reading} :
    severe ceiling x = true ↔ 2 * (ceiling : Int) < powerOf x ∨ 30000 < x.current.natAbs := by
  rw [severe, Bool.or_eq_true, decide_eq_true_eq, decide_eq_true_eq, Config.severeCurrent]

theorem verdict_of_severe {s : State} {c : ChanId} {x : Reading}
    (gated : (s.chan c).state = .on ∨ (s.chan c).state = .ramping)
    (hit : 2 * ((s.settings c).ceiling : Int) < powerOf x ∨ 30000 < x.current.natAbs) : s.verdict c x = .severe := by
  rcases gated with state | state <;> simp only [State.verdict, state, severe_iff.2 hit, if_true]

/-- A count at 120 or more is carried to 128 by a sample over the limit (R105). -/
theorem verdict_of_overdraw {s : State} {c : ChanId} {x : Reading} (state : (s.chan c).state = .on)
    (calm : ¬ 2 * ((s.settings c).ceiling : Int) < powerOf x) (low : x.current.natAbs ≤ 30000)
    (above : (s.effectiveLimit c : Int) < powerOf x) (near : 120 ≤ (s.measure c).overdraw) : s.verdict c x = .overdraw := by
  have mild : ¬ severe (s.settings c).ceiling x = true := fun hit => by
    have := severe_iff.1 hit
    omega
  have full : s.countAfter c x = Config.overdrawFull := by
    simp only [State.countAfter, if_pos state, overdrawAfter, if_pos above, Config.overdrawRise, Config.overdrawFull]
    omega
  simp only [State.verdict, state, if_neg mild, if_pos full]

/-- A sample with a trip's verdict trips the channel once it has been recorded (R78, R109). -/
theorem trippedAt_completeSlot {s : State} {sc : Scan} {c : ChanId} {r : Reading} {g : Grant} {v : Verdict} {k : TripCause}
    (slot : s.slot c = some g) (scan : s.scan = some sc) (here : sc.slot = c) (is : s.verdict c (sampleOf r) = v)
    (trips : v = .overdraw ∧ k = .overdraw ∨ v = .severe ∧ k = .severe) :
    TrippedAt s c g (max s.now sc.ends) k (s.completeSlot c r) := by
  have arrival : (sampled (s.advanceScan sc) c (sampleOf r)).sampleArrival c (outputOff (sampleOf r))
      (outputGood (s.settings c).pgInput (sampleOf r)) v = (sampled (s.advanceScan sc) c (sampleOf r)).trip c k := by
    rcases trips with ⟨rfl, rfl⟩ | ⟨rfl, rfl⟩ <;> rfl
  rw [completeSlot_of_verdict scan here is, arrival]
  refine trippedAt_trip slot ?_ (fun d ne => sampled_measure_of_ne (s.advanceScan sc) ne (sampleOf r)) k (State.countRound_eq ..)
  exact sampled_eq (s.advanceScan sc) c (sampleOf r) ▸ rfl

/-- At the expiry of a timer a trip changes nothing but the channel, its count and an outbox (R78, R80). -/
theorem trippedAt_reach {s : State} {c : ChanId} {g : Grant} (slot : s.slot c = some g) (e : Nat) (k : TripCause) :
    TrippedAt s c g (max s.now e) k ((s.reach e).trip c k) ∧
      (s.reach e).trip c k =
        { s with
          now := max s.now e
          meas := s.meas.upd c fun m => { m with overdraw := 0 }
          channels := ((s.reach e).trip c k).channels
          outboxes := ((s.reach e).trip c k).outboxes } :=
  ⟨trippedAt_trip (p := s.reach e) slot rfl (fun _ _ => rfl) k rfl, by rw [trip_eq]; rfl⟩

/-- Settles O33: the verdicts found, and the trip on the state their samples leave; the two timers found running. -/
theorem tripsSwitchTheChannelOff : Obligations.TripsSwitchTheChannelOff := by
  intro s c g slot Tripped Only
  refine ⟨fun sc r x now scan here sample time => ?sample, fun e timer state => ?ramp, fun e timer state => ?grace⟩
  case sample =>
    subst sample time
    refine ⟨fun state calm low above near => ?overdraw, fun gated hit => ?severe⟩
    case overdraw =>
      have verdict := verdict_of_overdraw state calm low above near
      exact ⟨s.completeSlot c r, congrArg Host.Outcome.next (if_pos verdict), rfl,
        trippedAt_completeSlot slot scan here verdict (.inl ⟨rfl, rfl⟩)⟩
    case severe =>
      exact ⟨_, rfl, trippedAt_completeSlot slot scan here (verdict_of_severe gated hit) (.inr ⟨rfl, rfl⟩)⟩
  case ramp =>
    refine ⟨(s.reach e).trip c .rampTimeout, ?_, trippedAt_reach slot e _⟩
    simp only [exec, execRampTimerExpiry, expiryOf_eq_some state timer]
  case grace =>
    refine ⟨(s.reach e).trip c .powerGoodLost, ?_, trippedAt_reach slot e _⟩
    simp only [exec, execGraceTimerExpiry, expiryOf_eq_some state timer]

end Sys2Proof
end

section
/-! Samples that neither trip the channel, nor end its grant, nor fault it (R74, R76, R77, R79, R84, R87). -/

namespace Sys2Proof

open Machine

/-! ### Samples without a verdict -/

/-- The record that a sample leaves which neither trips the channel, nor ends its grant, nor faults it (R74 to R87). -/
def afterSample (now : Nat) (k : ChannelConfig) (off good : Bool) (ch : Channel) : Channel :=
  match ch.state with
  | .idle => { ch with idleFaults := if off then 0 else ch.idleFaults + 1 }
  | .checking =>
    { ch with state := .ramping, gate := true, timer := some { kind := .ramp, expiry := now + ms k.rampWindow } }
  | .ramping => if good then { ch with state := .on, timer := none } else ch
  | .on =>
    if good then { ch with timer := none }
    else if ch.timer.isSome then ch
    else { ch with timer := some { kind := .grace, expiry := now + ms 100 } }
  | .discharging | .holdoff | .latched | .faulted => ch

/-- What a sample without a verdict must find so that `afterSample` says what it does: the output off in CHECKING, not off in
DISCHARGING, and in IDLE a count short of the limit (R74, R76, R87). -/
def Uneventful (off : Bool) (ch : Channel) : Prop :=
  (ch.state = .idle → off = false → ch.idleFaults + 1 < Config.idleFaultLimit) ∧ (ch.state = .checking → off = true) ∧
    (ch.state = .discharging → off = false)

section Arrival
variable {p : State} {c : ChanId} {off : Bool} (good : Bool) (calm : Uneventful off (p.chan c))
include calm

/-- The records and the notice of such a sample. -/
theorem sampleArrival_of_uneventful :
    p.sampleArrival c off good .none =
      { p with
        channels := p.channels.upd c (afterSample p.now (p.settings c) off good)
        outboxes :=
          if (p.chan c).state = .ramping ∧ good = true then (p.postHolder c fun g => .channelOn c g.number).outboxes
          else p.outboxes } := by
  obtain ⟨idle, checking, discharging⟩ := calm
  have becomes {f : Channel → Channel} (same : f (p.chan c) = afterSample p.now (p.settings c) off good (p.chan c)) :
      p.withChannel c f = { p with channels := p.channels.upd c (afterSample p.now (p.settings c) off good) } := by
    rw [State.withChannel, Table.upd_congr _ _ same]
  have stays (same : afterSample p.now (p.settings c) off good (p.chan c) = p.chan c) :
      p = { p with channels := p.channels.upd c (afterSample p.now (p.settings c) off good) } := by
    rw [Table.upd_id _ _ same]
  cases state : (p.chan c).state <;>
    simp only [State.sampleArrival, state, reduceCtorEq, false_and, true_and, if_false]
  case idle =>
    unfold State.sampleIdle
    cases off with
    | true => exact becomes (by simp [afterSample, state])
    | false =>
      rw [if_neg Bool.false_ne_true, if_pos (idle state rfl)]
      exact becomes (by simp [afterSample, state])
  case checking =>
    rw [State.sampleChecking, if_pos (checking state)]
    exact becomes (by simp [afterSample, state])
  case ramping =>
    unfold State.sampleRamping
    cases good with
    | true =>
      have told := postHolder_outboxes_congr (s := p)
        (t := p.withChannel c fun ch => { ch with state := .on, timer := none }) (c := c) rfl rfl rfl
        fun g => .channelOn c g.number
      rw [if_pos rfl, if_pos rfl, postHolder_eq, told, becomes (by simp [afterSample, state])]
    | false => exact stays (by simp [afterSample, state])
  case on =>
    unfold State.sampleOn
    cases good with
    | true => exact becomes (by simp [afterSample, state])
    | false =>
      rw [if_neg Bool.false_ne_true]
      split
      · next runs => exact stays (by simp [afterSample, state, runs])
      · next stopped => exact becomes (by simp [afterSample, state, stopped, Config.grace])
  case discharging =>
    rw [State.sampleDischarging, if_neg (by simp [discharging state])]
    exact stays (by simp [afterSample, state])
  case holdoff | latched | faulted => exact stays (by simp [afterSample, state])

end Arrival

/-- The slot completion of such a sample, as one change of the state (R109). -/
theorem completeSlot_of_uneventful {s : State} {sc : Scan} {c : ChanId} {r : Reading} {off good : Bool}
    (scan : s.scan = some sc) (here : sc.slot = c) (none : s.verdict c (sampleOf r) = .none)
    (isOff : outputOff (sampleOf r) = off) (isGood : outputGood (s.settings c).pgInput (sampleOf r) = good)
    (calm : Uneventful off (s.chan c)) :
    s.completeSlot c r =
      { s with
        now := max s.now sc.ends
        scan := some { slot := sc.slot + 1, ends := sc.ends + 1 }
        rounds := (s.completeSlot c r).rounds
        ready := (s.completeSlot c r).ready
        meas := (sampled (s.advanceScan sc) c (sampleOf r)).meas
        tallies := (sampled (s.advanceScan sc) c (sampleOf r)).tallies
        channels := s.channels.upd c (afterSample (max s.now sc.ends) (s.settings c) off good)
        outboxes :=
          if (s.chan c).state = .ramping ∧ good = true then (s.postHolder c fun g => .channelOn c g.number).outboxes
          else s.outboxes } := by
  have completed := completeSlot_of_no_verdict scan here none
  rw [isOff, isGood] at completed
  rw [completed]
  have moved := sampled_advanceScan_eq s sc c (sampleOf r)
  generalize sampled (s.advanceScan sc) c (sampleOf r) = p at moved ⊢
  have chan : p.chan c = s.chan c := by rw [moved]; rfl
  have told := postHolder_outboxes_congr (s := s) (t := p) (c := c) (by rw [moved]; rfl) (by rw [moved]) (by rw [moved])
    fun g => .channelOn c g.number
  rw [State.countRound_eq, sampleArrival_of_uneventful good (chan ▸ calm), chan, told, moved]
  rfl

/-- Settles O30: the record `afterSample` of the channel, and CHANNEL_ON at the move to ON. -/
theorem sampleMovesTheChannel : Obligations.SampleMovesTheChannel := by
  intro s sc c r x now off good ch scan here sample time record isOff isGood verdict idle checking discharging
  subst sample time record
  have form := completeSlot_of_uneventful scan here verdict isOff.symm isGood.symm ⟨idle, checking, discharging⟩
  have others (d : ChanId) (ne : d ≠ c) := sampled_measure_of_ne (s.advanceScan sc) ne (sampleOf r)
  obtain ⟨t, t_eq⟩ : ∃ t, t = s.completeSlot c r := ⟨_, rfl⟩
  rw [← t_eq] at form
  have own : t.chan c = afterSample (max s.now sc.ends) (s.settings c) off good (s.chan c) := by
    rw [form]
    exact Table.read_upd_self ..
  refine ⟨t, congrArg _ t_eq.symm, ?idle, ?checking, ?ramping, ?on, ?rest, fun d ne => ⟨?_, ?_⟩, fun h => ?told, ?frame⟩
  case idle | checking | ramping | on => exact fun state => by simp only [own, afterSample, state]
  case rest => rintro (state | state | state | state) <;> simp only [own, afterSample, state]
  · rw [form]
    exact Table.read_upd_of_ne _ _ ne
  · rw [form]
    exact others d ne
  case told =>
    have box : t.outbox h =
        if (s.chan c).state = .ramping ∧ good = true then (s.postHolder c fun g => .channelOn c g.number).outbox h
        else s.outbox h := by
      rw [form]
      split <;> rfl
    split
    · next vacant => rw [box, State.postHolder, vacant, ite_self]
    · next g slot =>
      rw [box, postHolder_outbox slot, ← ite_and]
      simp only [and_assoc]
  case frame => rw [form]

end Sys2Proof
end

section
/-! CLEAR_TRIP (R85): the body read, the checks in their order, and the restart. -/

namespace Sys2Proof

open Machine

theorem exec_clearTrip {s : State} {h : HostId} {f : Frame} (n : Served .clearTrip s h f) :
    exec .clearTrip s = .next (handleClearTrip h f (taken s h)) := congrArg _ (taking_served n handleClearTrip)

section Body
variable {s : State} {h : HostId} {f : Frame} {b : Byte} {c : ChanId}

theorem readChannelField_of_length {body : List Byte} (length : body.length ≠ 1) :
    readChannelField body = .error .badValue := by
  unfold readChannelField
  split
  · simp at length
  · rfl

theorem readChannelField_of_high (high : 8 ≤ b.toNat) : readChannelField [b] = .error .badChannel := by
  simp [readChannelField, channelOf_of_high high]

theorem handleClearTrip_of_error {r : Reason} (read : readChannelField f.body = .error r) :
    handleClearTrip h f s = s.refuse h f r := by
  rw [handleClearTrip, read]

theorem handleClearTrip_of_names (body : f.body = [b]) (names : b.toNat = c.val) :
    handleClearTrip h f s = s.clearTripChecked h f c := by
  rw [handleClearTrip, body, readChannelField_eq names]

theorem clearTripChecked_of_not_owns (other : s.owns h c = false) : s.clearTripChecked h f c = s.refuse h f .notOwner := by
  unfold State.clearTripChecked
  split
  · rfl
  · exact if_pos other

theorem clearTripChecked_of_running (owns : s.owns h c = true) (holdoff : (s.chan c).state ≠ .holdoff)
    (latched : (s.chan c).state ≠ .latched) : s.clearTripChecked h f c = s.refuse h f .badState := by
  obtain ⟨g, slot⟩ := slot_of_owns owns
  simp only [State.clearTripChecked, slot, owns, Bool.true_eq_false, if_false]
  split
  · next state => exact absurd state holdoff
  · next state => exact absurd state latched
  all_goals rfl

theorem clearTripChecked_of_tripped {g : Grant} (slot : s.slot c = some g) (owns : s.owns h c = true)
    (tripped : (s.chan c).state = .holdoff ∨ (s.chan c).state = .latched) :
    s.clearTripChecked h f c =
      (s.withChannel c fun ch => { ch with state := .checking, timer := none, retries := 0 }).respond h f
        (.clearTrip c g.number (s.chan c).retries) := by
  rcases tripped with state | state <;>
    simp only [State.clearTripChecked, slot, owns, state, Bool.true_eq_false, if_false]

end Body

/-- Settles O35: each check of R85 with those before it passed, and the restart. -/
theorem clearTripRestartsTheChannel : Obligations.ClearTripRestartsTheChannel := by
  intro s h f n
  have row := exec_clearTrip n
  refine ⟨fun length => ?_, fun b body => ⟨fun high => ?_, fun c names => ?_⟩⟩
  · rw [row, handleClearTrip_of_error (readChannelField_of_length length)]
    rfl
  · rw [row, handleClearTrip_of_error (body ▸ readChannelField_of_high high)]
    rfl
  · rw [handleClearTrip_of_names body names] at row
    refine ⟨fun other => ?_, fun owns holdoff latched => ?_, fun g slot owns tripped => ?_⟩
    · rw [row, clearTripChecked_of_not_owns (by simpa using other)]
      rfl
    · rw [row, clearTripChecked_of_running (s := taken s h) (by simpa using owns) holdoff latched]
      rfl
    · rw [row, clearTripChecked_of_tripped (s := taken s h) slot (by simpa using owns) tripped]
      rfl

end Sys2Proof
end

section
/-! A sample as numbers: the ranges of R98, the power of R99 and the output predicates of R73. -/

namespace Sys2Proof

open Machine

theorem saturate_eq {lo hi : Int} (le : lo ≤ hi) (x : Int) :
    saturate lo hi x = if x < lo then lo else if hi < x then hi else x := by
  unfold saturate
  split
  · omega
  · split <;> omega

theorem powerOf_of_nonneg {r : Reading} (pos : 0 ≤ r.bus * r.current) :
    1000 * powerOf r ≤ r.bus * r.current ∧ r.bus * r.current < 1000 * powerOf r + 1000 := by
  rw [powerOf, Int.tdiv_eq_ediv_of_nonneg pos]
  omega

theorem powerOf_of_nonpos {r : Reading} (neg : r.bus * r.current ≤ 0) :
    r.bus * r.current ≤ 1000 * powerOf r ∧ 1000 * powerOf r < r.bus * r.current + 1000 := by
  have flip : powerOf r = -((-(r.bus * r.current)).tdiv 1000) := by rw [Int.neg_tdiv, neg_neg, powerOf]
  rw [flip, Int.tdiv_eq_ediv_of_nonneg (by omega)]
  omega

/-- The product of a sample's bus voltage and current lies between the products of the ends of their ranges (R98, R99). -/
theorem product_mem_range {b i : Int} (bus : 0 ≤ b ∧ b ≤ 6000) (current : -32768 ≤ i ∧ i ≤ 32767) :
    6000 * -32768 ≤ b * i ∧ b * i ≤ 6000 * 32767 := by
  constructor <;> nlinarith

/-- Settles O38: the three ranges from the saturation, the power from its product, the predicates from their inequalities. -/
theorem samplePowerAndPredicates : Obligations.SamplePowerAndPredicates := by
  intro r x pgInput is
  have current : x.current = saturate (-32768) 32767 r.current := by rw [is]; rfl
  have output : x.output = saturate 0 6000 r.output := by rw [is]; rfl
  have bus : x.bus = saturate 0 6000 r.bus := by rw [is]; rfl
  rw [saturate_eq (by decide)] at current output bus
  have currentRange : -32768 ≤ x.current ∧ x.current ≤ 32767 := by split_ifs at current <;> omega
  have outputRange : 0 ≤ x.output ∧ x.output ≤ 6000 := by split_ifs at output <;> omega
  have busRange : 0 ≤ x.bus ∧ x.bus ≤ 6000 := by split_ifs at bus <;> omega
  have product := product_mem_range busRange currentRange
  refine ⟨current, output, bus, by rw [is]; rfl, currentRange, outputRange, busRange, ?power, powerOf_of_nonneg,
    powerOf_of_nonpos, ?apart, ?dead⟩
  case power =>
    rcases le_total 0 (x.bus * x.current) with pos | neg
    · have := powerOf_of_nonneg pos
      omega
    · have := powerOf_of_nonpos neg
      omega
  case apart =>
    intro live both
    simp only [outputOff, outputGood, Bool.and_eq_true, decide_eq_true_eq] at both
    omega
  case dead =>
    intro dead
    simp only [outputOff, outputGood, dead, decide_eq_false_iff_not, decide_eq_true (show 9 * 0 ≤ 10 * x.output by omega),
      Bool.true_and, and_true]
    omega

end Sys2Proof
end

section
/-! Commands whose event is not at hand: each finds nothing to do. -/

namespace Sys2Proof

open Machine

section NotAtHand
variable {s : State}

/-- A request row is a taking of its kind. -/
theorem exec_requestRow_otherwise {k : RequestKind} (straps : BitVec 2) (other : ∀ h f, ¬ Next k s h f) :
    exec (requestRow straps k) s = .next s := by
  cases k <;> exact congrArg _ (taking_otherwise other _)

theorem takingUnknown_otherwise (known : ∀ h f, s.nextFrame = some (h, f) → kindOf f.kind ≠ none) :
    s.takingUnknown = s := by
  unfold State.takingUnknown
  split
  · rfl
  · next h f next => exact if_neg (known h f next)

/-- A timer that does not run does not expire (R78, R80, R83, R87). -/
theorem expiryOf_of_stopped {c : ChanId} {k : TimerKind}
    (stopped : ∀ e, (s.chan c).timer ≠ some { kind := k, expiry := e }) (st : ChanState) : s.expiryOf c k st = none := by
  unfold State.expiryOf
  split
  · rfl
  · next t running => exact if_neg fun fits => stopped t.expiry (by rw [running, ← fits.1])

/-- An entry without a deadline has no deadline to expire (R57). -/
theorem exec_deadlineExpiry_of_none {h : HostId} {tag : Byte}
    (without : ∀ e ∈ s.queue.entries, e.host = h → e.tag = tag → e.deadline = none) :
    exec (.deadlineExpiry h tag) s = .next s := by
  cases found : s.entryOf h tag with
  | none => simp only [exec, execDeadlineExpiry, found]
  | some e =>
    have key : e.key = (h, tag) := by simpa using List.find?_some found
    have none := without e (List.mem_of_find?_eq_some found) (congrArg Prod.fst key) (congrArg Prod.snd key)
    simp only [exec, execDeadlineExpiry, found, WaitEntry.deadlineAt, none, Option.map_none]

/-- Start-up ends at the completion of slot 7 of the eighth round alone (R115). -/
theorem lastStartUpSlot_eq_false (other : ∀ sc, s.scan = some sc → sc.slot = 7 → s.rounds ≠ 7) :
    s.lastStartUpSlot = false := by
  unfold State.lastStartUpSlot
  cases scan : s.scan with
  | none => rfl
  | some sc =>
    have := other sc scan
    simpa [Config.startUpRounds] using this

/-- A fall of select finds none where select is low (R179). -/
theorem selectFall_of_low {h : HostId} {x : Selection} (low : (s.port h).select = some x) : s.selectFall h = s := by
  simp only [State.selectFall, low]

end NotAtHand

/-- Settles O54, event by event. -/
theorem eventsNotAtHandChangeNothing : Obligations.EventsNotAtHandChangeNothing := by
  intro s
  refine ⟨fun k straps => exec_requestRow_otherwise straps, fun known => congrArg _ (takingUnknown_otherwise known),
    ?ramp, ?grace, ?holdoff, ?discharge, ?lease, ?window, ?blocking,
    fun h tag => exec_deadlineExpiry_of_none, ?derate, ?slot, ?startUp, fun c r no => congrArg _ (if_neg no),
    fun c r no => congrArg _ (if_neg (by simp [no])), ?select, ?code, ?fix, fun straps low => congrArg _ (if_pos low),
    fun straps high => congrArg _ (if_neg (by simp [high]))⟩
  case ramp | grace | holdoff | discharge =>
    intro c stopped
    simp only [exec, execRampTimerExpiry, execGraceTimerExpiry, execHoldoffTimerExpiry, execDischargeTimerExpiry,
      expiryOf_of_stopped stopped]
  case lease =>
    intro h straps stopped
    simp only [exec, execLeaseExpiry, stopped, ite_self]
  case window =>
    intro closed
    simp only [exec, execWindowTimerExpiry, closed]
  case blocking =>
    intro stopped
    simp only [exec, execBlockingTimerExpiry, stopped]
  case derate =>
    intro stopped
    simp only [exec, execDerateHoldExpiry, stopped]
  case slot =>
    intro c r other
    have same := State.completeSlot_otherwise other r
    have either (p : Prop) [Decidable p] : (if p then s.completeSlot c r else s) = s := by rw [same, ite_self]
    exact ⟨congrArg _ same, congrArg _ (either _), congrArg _ (either _)⟩
  case startUp =>
    intro r other
    exact congrArg _ (if_neg (by simp [lastStartUpSlot_eq_false other]))
  case select =>
    intro h code b low
    have same := selectFall_of_low low
    have either (p : Prop) [Decidable p] : (if p then s.selectFall h else s) = s := by rw [same, ite_self]
    exact ⟨congrArg _ same, fun stray => congrArg _ same, congrArg _ same, congrArg _ same, congrArg _ (either _)⟩
  case code =>
    intro h code e known
    exact congrArg _ (if_neg fun unknown => transactionOf_eq_unknown.1 unknown (by simpa using known))
  case fix =>
    intro h x fixed
    simp only [exec, execOutboxHeadFix, fixed]

end Sys2Proof
end

section
/-! Gates and channel records through every step (R70, R71, R74, R81, R82): by what an act and a turn make of a record. -/

namespace Sys2Proof

open Machine

/-! ### What an act makes of a channel -/

/-- What an act makes of a channel's record and of its overdraw count (R23, R31, R74, R86). -/
inductive ActTurn (now : Nat) (ch : Channel) (count : Nat) : Channel → Nat → Prop where
  | same : ActTurn now ch count ch count
  /-- A grant is created on the channel. -/
  | grant (idle : ch.state = .idle) :
      ActTurn now ch count { ch with state := .checking, retries := 0, idleFaults := 0 } count
  /-- The channel's grant ends, or the channel is quarantined with none. -/
  | rest (after : ChanState) (off : after = .idle ∨ after = .faulted) (ungated : ch.state ≠ .ramping ∧ ch.state ≠ .on) :
      ActTurn now ch count (Channel.rest after) count
  /-- The channel's discharge begins. -/
  | discharge (gated : ch.state = .ramping ∨ ch.state = .on) :
      ActTurn now ch count
        { ch with
          state := .discharging, gate := false
          timer := some { kind := .discharge, expiry := now + ms Config.dischargeWindow } } 0

theorem createGrants_chan (e : WaitEntry) (c : ChanId) (is : List Item) : ∀ s : State,
    (s.createGrants e is).1.chan c =
      if c ∈ is.map Item.channel then { s.chan c with state := .checking, retries := 0, idleFaults := 0 } else s.chan c := by
  induction is with
  | nil => exact fun s => rfl
  | cons i rest ih =>
    intro s
    rw [createGrants_cons, ih, State.createGrant_chan]
    by_cases here : c = i.channel <;> simp [here]

/-- The creation of grants restarts rings and peaks, and keeps every overdraw count (R23). -/
theorem createGrants_overdraw (e : WaitEntry) (c : ChanId) (is : List Item) : ∀ s : State,
    ((s.createGrants e is).1.measure c).overdraw = (s.measure c).overdraw := by
  induction is with
  | nil => exact fun s => rfl
  | cons i rest ih =>
    intro s
    rw [createGrants_cons, ih, State.createGrant_measure]
    split <;> rfl

/-- The one inversion of acts that the laws of channels and of overdraw counts rest on. -/
theorem turn_act {s t : State} (a : Act s t) (c : ChanId) :
    ActTurn s.now (s.chan c) (s.measure c).overdraw (t.chan c) (t.measure c).overdraw := by
  cases a with
  | post h n => rw [State.post_eq]; exact .same
  | leave es => rw [State.setEntries_eq]; exact .same
  | admitEntry e _ adm =>
    have free := free_of_admissible adm
    have records : ∀ u : State, (u.takeOut e).chan c = u.chan c ∧ (u.takeOut e).measure c = u.measure c := fun u => by
      rw [State.takeOut, State.setEntries_eq]
      exact ⟨rfl, rfl⟩
    rw [State.admitEntry, (records _).1, (records _).2, createGrants_chan, createGrants_overdraw]
    split
    · next named =>
      obtain ⟨i, m, rfl⟩ := List.mem_map.1 named
      exact .grant (free i m).1
    · exact .same
  | finish d g after _ rest gate =>
    have count : ((s.removeGrant d g after).measure c).overdraw = (s.measure c).overdraw := by rw [removeGrant_eq]; rfl
    rw [count, removeGrant_chan]
    split
    · next here => exact .rest after rest (here ▸ gate)
    · exact .same
  | mark => exact .same
  | discharge d g _ _ _ state =>
    have count : ((s.startDischarge d g).measure c).overdraw = if c = d then 0 else (s.measure c).overdraw := by
      simp only [State.startDischarge, State.withReleasing_measure, State.withMeasure_measure, State.withChannel_measure]
      split <;> rfl
    rw [count, startDischarge_chan]
    split
    · next here => exact .discharge (here ▸ state)
    · exact .same
  | fault d state =>
    rw [State.withChannel_chan, State.withChannel_measure]
    split
    · next here => exact .rest .faulted (.inr rfl) (by rw [here, state]; decide)
    · exact .same
  | close h => rw [endClosing_eq]; exact .same

/-! ### The gate -/

/-- A channel record whose gate is on exactly in RAMPING and ON (R71). -/
def Gated (ch : Channel) : Prop := ch.gate = true ↔ (ch.state = .ramping ∨ ch.state = .on)

theorem ActTurn.gated {now n m : Nat} {ch ch' : Channel} (turn : ActTurn now ch n ch' m) (law : Gated ch) : Gated ch' := by
  cases turn with
  | same => exact law
  | grant idle => simpa [Gated, idle] using law
  | rest after off => rcases off with rfl | rfl <;> simp [Gated, Channel.rest]
  | discharge => simp [Gated]

theorem Turn.gated {now : Nat} {k : ChannelConfig} {ch ch' : Channel} (turn : Turn now k ch ch') (law : Gated ch) :
    Gated ch' := by
  cases turn with
  | off | count | steady | grace => exact law
  | ramp => simp [Gated]
  | good state => simpa [Gated, state] using law
  | trip => cases latched : decide (k.retryLimit ≤ ch.retries) <;> simp [Gated, Channel.tripped]
  | retry state => simpa [Gated, state] using law
  | clear state => rcases state with state | state <;> simpa [Gated, state] using law
  | mend => simp [Gated, Channel.rest]

/-- R71 through every step: by what an act and a turn make of a record. -/
theorem gateLaw_kept : Kept GateLaw := by
  obtain ⟨-, gate, -⟩ := resetStateIsPowerOnsAndMeetsEveryLaw
  refine kept_of_acts (fun {s t} law _ channels _ c => ?_) (fun a law c => (turn_act a c).gated (law c))
    (fun {s e} _ law c => ?_) (fun law => law) (fun {s c ch} turn law d => ?_) gate
  · have same : t.chan c = s.chan c := by simp [State.chan, channels]
    exact same ▸ law c
  · have same : (s.place e).chan c = s.chan c := by rw [State.place, State.setEntries_eq]; rfl
    exact same ▸ law c
  · change Gated _
    rw [State.withChannel_chan]
    split
    · exact turn.gated (law c)
    · exact law d

/-! ### The record -/

theorem ActTurn.legal {now n m : Nat} {ch ch' : Channel} (turn : ActTurn now ch n ch' m) (law : Channel.Legal ch) :
    Channel.Legal ch' := by
  obtain ⟨timer, most, none, holdoff, faults, outside⟩ := law
  cases turn with
  | same => exact ⟨timer, most, none, holdoff, faults, outside⟩
  | grant idle =>
    have stopped : ch.timer = .none := by simpa [Channel.TimerFits, idle] using timer
    exact ⟨stopped, Nat.zero_le _, fun _ => rfl, nofun, (by decide : 0 < Config.idleFaultLimit), fun _ => rfl⟩
  | rest after off =>
    rcases off with rfl | rfl <;> exact ⟨rfl, Nat.zero_le _, fun _ => rfl, nofun, by decide, fun _ => rfl⟩
  | discharge gated =>
    have idle : ch.state ≠ .idle := by rcases gated with state | state <;> simp [state]
    exact ⟨⟨_, rfl⟩, most, nofun, nofun, faults, fun _ => outside idle⟩

/-- A turn keeps a record legal, at settings whose retry limit is in range (R82, R93). -/
theorem Turn.legal {now : Nat} {k : ChannelConfig} {ch ch' : Channel} (turn : Turn now k ch ch') (limit : k.retryLimit ≤ 7)
    (law : Channel.Legal ch) : Channel.Legal ch' := by
  obtain ⟨timer, most, none, holdoff, faults, outside⟩ := law
  cases turn with
  | off state => exact ⟨timer, most, none, holdoff, (by decide : 0 < Config.idleFaultLimit), fun _ => rfl⟩
  | count state short => exact ⟨timer, most, none, holdoff, short, fun other => absurd state other⟩
  | ramp state => exact ⟨⟨_, rfl⟩, most, nofun, nofun, faults, fun _ => outside (by simp [state])⟩
  | good state => exact ⟨.inl rfl, most, nofun, nofun, faults, fun _ => outside (by simp [state])⟩
  | steady state => exact ⟨by simp [Channel.TimerFits, state], most, none, holdoff, faults, outside⟩
  | grace state => exact ⟨by simp [Channel.TimerFits, state], most, none, holdoff, faults, outside⟩
  | trip state =>
    rw [tripped_eq]
    have idle : ch.state ≠ .idle := by rcases state with state | state <;> simp [state]
    by_cases left : ch.retries < k.retryLimit
    · simp only [if_pos left]
      exact ⟨⟨_, rfl⟩, most, nofun, fun _ => left.trans_le limit, faults, fun _ => outside idle⟩
    · simp only [if_neg left]
      exact ⟨rfl, most, nofun, nofun, faults, fun _ => outside idle⟩
  | retry state => exact ⟨rfl, holdoff state, nofun, nofun, faults, fun _ => outside (by simp [state])⟩
  | clear state =>
    have idle : ch.state ≠ .idle := by rcases state with state | state <;> simp [state]
    exact ⟨rfl, Nat.zero_le _, fun _ => rfl, nofun, faults, fun _ => outside idle⟩
  | mend => exact ⟨rfl, Nat.zero_le _, fun _ => rfl, nofun, by decide, fun _ => rfl⟩

/-- A configuration in range and legal records: what a turn of a channel needs, and what it leaves. -/
def SoundRecords (s : State) : Prop := Configuration.InRange s.config ∧ ∀ c, Channel.Legal (s.chan c)

theorem SoundRecords.of_channels {s t : State} (law : SoundRecords s) (config : Configuration.InRange t.config)
    (channels : t.channels = s.channels) : SoundRecords t := by
  refine ⟨config, fun c => ?_⟩
  have same : t.chan c = s.chan c := by simp [State.chan, channels]
  exact same ▸ law.2 c

theorem SoundRecords.act {s t : State} (law : SoundRecords s) (a : Act s t) : SoundRecords t :=
  ⟨a.quiet.config ▸ law.1, fun c => (turn_act a c).legal (law.2 c)⟩

theorem SoundRecords.move {s t : State} (law : SoundRecords s) (m : Move s t) : SoundRecords t := by
  cases m with
  | act a => exact law.act a
  | place e =>
    rw [State.place, State.setEntries_eq]
    exact law
  | turn c ch turn =>
    refine ⟨law.1, fun d => ?_⟩
    rw [State.withChannel_chan]
    split
    · obtain ⟨-, -, -, limit⟩ := law.1.2.1 c
      exact turn.legal limit (law.2 c)
    · exact law.2 d
  | _ => exact law

theorem SoundRecords.recompute {s : State} (law : SoundRecords s) (k : BudgetCause) : SoundRecords (s.recompute k) :=
  (acts_recompute s k).keeps (fun _ _ law a => law.act a) (law.of_channels (t := s.withTotal _) law.1 rfl)

theorem SoundRecords.effects {ch : Change} {s t : State} (legal : Change.InRange ch) (law : SoundRecords s)
    (es : Effects ch s t) : SoundRecords t := by
  induction es with
  | refl => exact law
  | @tail u _ _ e ih =>
    cases e with
    | move m => exact ih.move m
    | straps => exact ih
    | config k _ _ keeps => exact ih.of_channels (keeps legal ih.1) rfl
    | level k keeps => exact (ih.of_channels (t := { u with config := k }) (keeps legal ih.1) rfl).recompute _

theorem recordLaw_deed {s t : State} (law : RecordLaw s) (d : Deed s t) : RecordLaw t := by
  have sound : SoundRecords s := ⟨law.1.1, law.2⟩
  refine ⟨configLaw_deed law.1 d, ?_⟩
  cases d with
  | move m => exact (sound.move m).2
  | round c => rw [State.countRound_eq]; exact law.2
  | derate e _ k => exact (sound.of_channels (t := s.withFilter _ none) sound.1 rfl).recompute k |>.2
  | depart h k _ m =>
    exact (m.keeps (fun _ _ law a => law.move a) (sound.of_channels (t := s.withSession h _) sound.1 rfl)).2
  | adopt ch source es =>
    have legal : Change.InRange ch := by
      rcases source with legal | ⟨p, is, rfl⟩
      · exact legal
      · exact law.1.2 p is
    exact (SoundRecords.effects legal (sound.of_channels (t := s.withProposal none) sound.1 rfl) es).2
  | _ => exact law.2

/-- R70, R74 and R82 through every step, with the configuration they rest on. -/
theorem recordLaw_kept : Kept RecordLaw := by
  refine kept_of_deeds (fun s p law => law) (fun i s t kind law run => ?_) fun s t => recordLaw_deed
  rcases resets_cases kind run with rfl | ⟨straps, ports, rfl⟩ | ⟨-, straps, rfl⟩
  · exact law
  · exact ⟨(noProposal_laws rfl).2 (inRange_default straps), legal_reset⟩
  · exact ⟨(noProposal_laws rfl).2 (inRange_default straps), legal_reset⟩

end Sys2Proof
end

section
/-! What a step can do to channel records and overdraw counts, said once: every command but the three resets is a run of shifts,
which keep what the moves and stages forget of the measurements. -/

namespace Sys2Proof

open Machine

/-! ### The shifts of channels and overdraw counts -/

/-- From `s` to `t` no channel record and no overdraw count is changed. -/
structure SameCounts (s t : State) : Prop where
  chan : ∀ c, t.chan c = s.chan c
  overdraw : ∀ c, (t.measure c).overdraw = (s.measure c).overdraw

/-- The parts of every command but the three resets, as channel records and overdraw counts see them. -/
inductive Shift : State → State → Prop where
  | acts {s t : State} (a : Acts s t) : Shift s t
  | same {s t : State} (same : SameCounts s t) : Shift s t
  /-- A channel record is replaced by one that does not leave ON. -/
  | record (s : State) (c : ChanId) (f : Channel → Channel) (stays : (s.chan c).state = .on → (f (s.chan c)).state = .on) :
      Shift s (s.withChannel c f)
  /-- A sample of channel c is recorded and counted (R105). -/
  | sample (s : State) (c : ChanId) (r : Reading) (calm : s.verdict c r = .none) : Shift s (sampled s c r)
  /-- A trip of channel c, on a state that differs in the record of channel c alone (R81). -/
  | trip {s p : State} (c : ChanId) (others : ∀ d, d ≠ c → p.chan d = s.chan d ∧ p.measure d = s.measure d)
      (k : TripCause) : Shift s (p.trip c k)

/-- A run of shifts. -/
abbrev Shifts : State → State → Prop := Relation.ReflTransGen Shift

theorem shifts_acts {s t : State} (a : Acts s t) : Shifts s t := .single (.acts a)

theorem shifts_same {s t : State} (chan : ∀ c, t.chan c = s.chan c)
    (overdraw : ∀ c, (t.measure c).overdraw = (s.measure c).overdraw) : Shifts s t := .single (.same ⟨chan, overdraw⟩)

/-- Whatever the state has besides, the same channels and measurement records shift nothing. -/
theorem shifts_of_eq {s t : State} (channels : t.channels = s.channels) (meas : t.meas = s.meas) : Shifts s t :=
  shifts_same (fun c => by simp [State.chan, channels]) fun c => by simp [State.measure, meas]

theorem shifts_respond (s : State) (h : HostId) (f : Frame) (a : Answer) : Shifts s (s.respond h f a) := shifts_of_eq rfl rfl

theorem shifts_refuse (s : State) (h : HostId) (f : Frame) (r : Reason) : Shifts s (s.refuse h f r) := shifts_of_eq rfl rfl

theorem shifts_taken (s : State) (h : HostId) : Shifts s (taken s h) := shifts_of_eq rfl rfl

theorem shifts_restartRings (s : State) : Shifts s s.restartRings :=
  shifts_same (fun c => by rw [State.restartRings_eq]; simp only [State.chan]) fun c => by
    rw [State.restartRings_measure]
    rfl

/-! ### Samples and channel timers -/

theorem shifts_postHolder (s : State) (c : ChanId) (n : Grant → Notice) : Shifts s (s.postHolder c n) := by
  rw [postHolder_eq]
  exact shifts_of_eq rfl rfl

/-- A sample without a verdict takes no channel out of ON (R79). -/
theorem shifts_sampleArrival (s : State) (c : ChanId) (off good : Bool) : Shifts s (s.sampleArrival c off good .none) := by
  unfold State.sampleArrival
  dsimp only
  split
  case h_1 state =>
    unfold State.sampleIdle
    split
    · exact .single (.record s c _ id)
    · split
      · exact .single (.record s c _ id)
      · exact shifts_acts (acts_faultIdle s c state)
  case h_2 state =>
    unfold State.sampleChecking
    split
    · exact .single (.record s c _ fun on => by simp [state] at on)
    · exact .tail (shifts_acts (.single (.mark ..))) (.acts (acts_endToFaulted _ _ (by simp [state])))
  case h_3 state =>
    unfold State.sampleRamping
    split
    · exact .trans (.single (.record s c _ fun _ => rfl)) (shifts_postHolder ..)
    · exact .refl
  case h_4 state =>
    unfold State.sampleOn
    split
    · exact .single (.record s c _ id)
    · split
      · exact .refl
      · exact .single (.record s c _ id)
  case h_5 state =>
    unfold State.sampleDischarging
    split
    · exact shifts_acts (acts_endToIdle _ _ (by simp [state]))
    · exact .refl
  all_goals exact .refl

theorem sampled_chan (s : State) (c d : ChanId) (r : Reading) : (sampled s c r).chan d = s.chan d := by
  rw [sampled_eq]
  rfl

theorem shifts_sampleEvent (s : State) (c : ChanId) (r : Reading) : Shifts s (s.sampleEvent c r) := by
  have tripped (k : TripCause) : Shifts s ((sampled s c r).trip c k) :=
    .single (.trip c (fun d ne => ⟨sampled_chan .., sampled_measure_of_ne s ne r⟩) k)
  have event : s.sampleEvent c r =
      (sampled s c r).sampleArrival c (outputOff r) (outputGood (s.settings c).pgInput r) (s.verdict c r) := rfl
  rw [event]
  cases verdict : s.verdict c r with
  | none => exact .trans (.single (.sample s c r verdict)) (shifts_sampleArrival ..)
  | overdraw => exact tripped .overdraw
  | severe => exact tripped .severe

theorem shifts_completeSlot (s : State) (c : ChanId) (r : Reading) : Shifts s (s.completeSlot c r) := by
  unfold State.completeSlot
  split
  · exact .refl
  · next sc _ =>
    split
    · have counted (t : State) : Shifts t (t.countRound c) := by
        rw [State.countRound_eq]
        exact shifts_of_eq rfl rfl
      have advanced : Shifts s (s.advanceScan sc) := shifts_of_eq rfl rfl
      exact (advanced.trans (shifts_sampleEvent ..)).trans (counted _)
    · exact .refl

/-! ### Requests -/

theorem shifts_setEntries (s : State) (es : List WaitEntry) : Shifts s (s.setEntries es) := by
  rw [State.setEntries_eq]
  exact shifts_of_eq rfl rfl

theorem shifts_handleClaim (s : State) (h : HostId) (f : Frame) : Shifts s (handleClaim h f s) := by
  have placed (e : WaitEntry) : Shifts s (s.place e) := shifts_setEntries ..
  have scanned {t : State} (placed : Shifts s t) : Shifts s (t.scanFor h f.tag).1 :=
    placed.trans (shifts_acts (acts_scanFor ..))
  unfold handleClaim
  split
  · exact shifts_refuse ..
  · next cl _ =>
    split
    · exact shifts_refuse ..
    · split
      · unfold State.claimWait
        split
        · exact shifts_refuse ..
        · have counted {t : State} : Shifts t t.advanceArrival := shifts_of_eq rfl rfl
          have queued (e : WaitEntry) := scanned ((placed e).trans counted)
          dsimp only
          split <;> exact (queued _).trans (shifts_respond ..)
      · have tried (e : WaitEntry) := scanned (placed e)
        unfold State.claimNoWait
        dsimp only
        split
        · exact (tried _).trans (shifts_respond ..)
        all_goals exact ((tried _).trans (shifts_setEntries ..)).trans (shifts_respond ..)

theorem shifts_handleCancel (s : State) (h : HostId) (f : Frame) : Shifts s (handleCancel h f s) := by
  unfold handleCancel
  split
  · split
    · exact shifts_refuse ..
    · exact ((shifts_setEntries ..).trans (shifts_acts (acts_scanQueue _))).trans (shifts_respond ..)
  · exact shifts_refuse ..

theorem shifts_bodiless {s : State} {h : HostId} {f : Frame} {answer : State → State} (m : Shifts s (answer s)) :
    Shifts s (s.bodiless h f answer) := by
  unfold State.bodiless
  split
  · exact m
  · exact shifts_refuse ..

theorem shifts_resizeUp (s : State) (h : HostId) (f : Frame) (c : ChanId) (g : Grant) (amount : Nat) :
    Shifts s (s.resizeUp h f c g amount) := by
  unfold State.resizeUp
  split
  · exact shifts_refuse ..
  · split <;> exact shifts_of_eq rfl rfl

theorem shifts_handleResize (s : State) (h : HostId) (f : Frame) : Shifts s (handleResize h f s) := by
  have smaller (c : ChanId) (g : Grant) (amount : Nat) : Shifts s (s.setAmount c g amount) := shifts_of_eq rfl rfl
  unfold handleResize
  split
  · split
    · exact shifts_refuse ..
    · unfold State.resizeChecked
      split
      · exact shifts_refuse ..
      · split_ifs
        · exact shifts_refuse ..
        · exact shifts_refuse ..
        · exact shifts_refuse ..
        · exact shifts_respond ..
        · exact ((smaller ..).trans (shifts_acts (acts_scanQueue _))).trans (shifts_respond ..)
        · exact shifts_resizeUp ..
        · exact shifts_refuse ..
  · exact shifts_refuse ..

theorem shifts_handleRelease (s : State) (h : HostId) (f : Frame) : Shifts s (handleRelease h f s) := by
  unfold handleRelease
  split
  · exact shifts_refuse ..
  · next c _ =>
    have released := shifts_acts (acts_releaseGrant s c .released)
    unfold State.releaseChecked
    split
    · exact shifts_refuse ..
    · split
      · exact shifts_refuse ..
      · split
        case h_1 | h_2 | h_3 | h_4 | h_5 => exact released.trans (shifts_respond ..)
        case h_6 | h_7 | h_8 => exact shifts_refuse ..

theorem shifts_handleClearTrip (s : State) (h : HostId) (f : Frame) : Shifts s (handleClearTrip h f s) := by
  have restarted {c : ChanId} {off : ChanState} (state : (s.chan c).state = off) (ne : off ≠ .on) (g : Channel → Channel) :
      Shifts s (s.withChannel c g) := .single (.record s c g fun on => absurd (state.symm.trans on) ne)
  unfold handleClearTrip
  split
  · exact shifts_refuse ..
  · unfold State.clearTripChecked
    split
    · exact shifts_refuse ..
    · split
      · exact shifts_refuse ..
      · split
        case h_1 state | h_2 state => exact (restarted state nofun _).trans (shifts_respond ..)
        all_goals exact shifts_refuse ..

theorem shifts_handleReadChannel (s : State) (h : HostId) (f : Frame) : Shifts s (handleReadChannel h f s) := by
  have reread (c : ChanId) (n : Int) : Shifts s (s.withMeasure c fun m => { m with peak := n }) :=
    shifts_same (fun _ => rfl) fun d => by
      rw [State.withMeasure_measure]
      split <;> rfl
  unfold handleReadChannel
  split
  · split
    · exact shifts_refuse ..
    · exact shifts_refuse ..
    · unfold State.readChannelChecked
      split
      · split
        · exact (reread ..).trans (shifts_respond ..)
        · exact shifts_refuse ..
      · exact shifts_respond ..
  · exact shifts_refuse ..

/-- A tally is read, and zeroed, beside channels and measurements. -/
theorem shifts_handleReadTally (s : State) (h : HostId) (f : Frame) : Shifts s (handleReadTally h f s) := by
  unfold handleReadTally
  repeat' split
  all_goals exact shifts_of_eq rfl rfl

theorem shifts_handleReadConfig (s : State) (h : HostId) (f : Frame) : Shifts s (handleReadConfig h f s) := by
  unfold handleReadConfig
  repeat' split
  all_goals exact shifts_of_eq rfl rfl

theorem shifts_handleAttach (s : State) (h : HostId) (f : Frame) : Shifts s (handleAttach h f s) := by
  unfold handleAttach
  repeat' split
  all_goals exact shifts_of_eq rfl rfl

/-! ### Adoptions and proposals -/

theorem shifts_recompute (s : State) (k : BudgetCause) : Shifts s (s.recompute k) :=
  have leveled : Shifts s (s.withTotal s.selectedLevel) := shifts_of_eq rfl rfl
  leveled.trans (shifts_acts (acts_recompute s k))

theorem shifts_adopt (s : State) (straps : BitVec 2) (ch : Change) : Shifts s (s.adopt straps ch) := by
  have configured (k : Configuration) : Shifts s (s.withConfig fun _ => k) := shifts_of_eq rfl rfl
  cases ch with
  | setBudget n d => exact (configured { s.config with normal := n, derated := d }).trans (shifts_recompute ..)
  | setCeiling c v =>
    exact (configured (s.withSettings c fun k => { k with ceiling := v }).config).trans (shifts_acts (acts_failAndScan ..))
  | setChannelTiming | setLease => exact configured _
  | setHostCap h v =>
    refine (configured { s.config with caps := s.config.caps.upd h fun _ => v }).trans (shifts_acts ?_)
    rw [State.adopt, State.adoptCap]
    dsimp only
    split
    · exact (acts_failEntries ..).trans (acts_scanQueue _)
    · exact acts_failEntries ..
  | setQueueAge a =>
    have judged : Shifts s (s.withConfig fun k => { k with blockingAge := a }).judgeHead := shifts_of_eq rfl rfl
    rw [State.adopt, State.adoptQueueAge]
    split
    · exact judged.trans (shifts_acts (acts_scanQueue _))
    · exact judged
  | setAveraging n => exact (configured { s.config with averaging := n }).trans (shifts_restartRings _)
  | clearChannelFault c =>
    rw [State.adopt, State.adoptClearFault]
    split
    · next faulted => exact .single (.record s c _ fun on => by simp [faulted] at on)
    · exact .refl
  | forceRelease c n =>
    rw [State.adopt, State.adoptForceRelease]
    split
    · exact .refl
    · split
      · exact shifts_acts (acts_releaseGrant ..)
      · exact .refl
  | resetPart =>
    have read : Shifts s (s.readStraps straps) := shifts_of_eq rfl rfl
    have emptied :=
      (acts_failEntries (s.readStraps straps) (fun _ => true) .reset).trans (acts_releaseAll _ (fun _ => true) .reset)
    have defaults {t : State} {k : Configuration} : Shifts t (t.withConfig fun _ => k) := shifts_of_eq rfl rfl
    have zeroed {t : State} : Shifts t t.zeroTallies := shifts_of_eq rfl rfl
    have reset (k : Configuration) := (read.trans (shifts_acts emptied)).trans (defaults (k := k))
    exact (((reset _).trans (shifts_recompute ..)).trans (shifts_restartRings _)).trans zeroed

/-- A proposal opened, replaced or dropped moves no channel. -/
theorem shifts_withProposal (s : State) (o : Option Proposal) : Shifts s (s.withProposal o) := shifts_of_eq rfl rfl

theorem shifts_adoptProposal (s : State) (straps : BitVec 2) (p : Proposal) : Shifts s (s.adoptProposal straps p) :=
  ((shifts_withProposal s none).trans (shifts_adopt ..)).trans (shifts_acts (acts_broadcast ..))

theorem shifts_closeProposal (s : State) (p : Proposal) (o : CloseOutcome) (d : Option HostId) :
    Shifts s (s.closeProposal p o d) :=
  (shifts_withProposal s none).trans (shifts_acts (acts_broadcast ..))

theorem acts_postOpened (s : State) (p : Proposal) : Acts s (s.postOpened p) := by
  have told (t : State) (k : HostId) : Acts t
      (if p.electorate.read k && k != p.proposer then t.post k (.proposalOpened p.id p.proposer p.change) else t) := by
    split
    · exact acts_post ..
    · exact .refl _
  exact (((told _ 0).trans (told _ 1)).trans (told _ 2)).trans (told _ 3)

theorem shifts_handlePropose (s : State) (straps : BitVec 2) (h : HostId) (f : Frame) :
    Shifts s (handlePropose straps h f s) := by
  have counted : Shifts s s.advanceProposal := shifts_of_eq rfl rfl
  unfold handlePropose
  split
  · exact shifts_refuse ..
  · split
    · exact shifts_refuse ..
    · split
      · exact shifts_refuse ..
      · unfold State.openProposal
        dsimp only
        split
        · exact (counted.trans (shifts_adoptProposal ..)).trans (shifts_respond ..)
        · exact ((counted.trans (shifts_withProposal ..)).trans (shifts_acts (acts_postOpened ..))).trans (shifts_respond ..)

theorem shifts_withOpen {s : State} {h : HostId} {f : Frame} {act : Proposal → State → State}
    (acts : ∀ p, Shifts s (act p s)) : Shifts s (s.withOpen h f act) := by
  unfold State.withOpen
  split
  · split
    · exact shifts_refuse ..
    · exact acts _
  · exact shifts_refuse ..

theorem shifts_handleConsent (s : State) (straps : BitVec 2) (h : HostId) (f : Frame) :
    Shifts s (handleConsent straps h f s) := by
  refine shifts_withOpen fun p => ?_
  unfold State.consentTo
  split
  · exact shifts_refuse ..
  · split
    · exact shifts_respond ..
    · dsimp only
      split
      · exact (shifts_adoptProposal ..).trans (shifts_respond ..)
      · exact (shifts_withProposal ..).trans (shifts_respond ..)

theorem shifts_handleDissent (s : State) (h : HostId) (f : Frame) : Shifts s (handleDissent h f s) := by
  refine shifts_withOpen fun p => ?_
  split
  · exact shifts_refuse ..
  · exact (shifts_closeProposal ..).trans (shifts_respond ..)

theorem shifts_handleWithdraw (s : State) (h : HostId) (f : Frame) : Shifts s (handleWithdraw h f s) := by
  refine shifts_withOpen fun p => ?_
  split
  · exact (shifts_closeProposal ..).trans (shifts_respond ..)
  · exact shifts_refuse ..

/-! ### Sessions -/

theorem shifts_closeSession (s : State) (straps : BitVec 2) (h : HostId) (cause : CloseCause) :
    Shifts s (s.closeSession straps h cause) := by
  have closed : Shifts s (justClosed s h cause) := shifts_of_eq rfl rfl
  have torn : Shifts (emptied s h cause) ((emptied s h cause).consentTeardown straps h) :=
    consentTeardown_cases straps (fun _ => .refl) (fun _ => shifts_closeProposal ..) (fun _ => shifts_adoptProposal ..)
      fun _ => shifts_withProposal ..
  rw [closeSession_eq]
  exact ((closed.trans (shifts_acts (acts_emptied ..))).trans torn).trans (shifts_acts (.single (.close ..)))

/-! ### The request rows -/

/-- A request row shifts what its handling does (R186). -/
theorem shifts_taking {s : State} {k : RequestKind} {handle : HostId → Frame → State → State}
    (handled : ∀ h f t, Shifts t (handle h f t)) : Shifts s (s.taking k handle) := by
  by_cases n : ∃ h f, Next k s h f
  · obtain ⟨h, f, n⟩ := n
    refine (shifts_taken s h).trans ?_
    by_cases att : s.attached h = true
    · rw [taking_served ⟨n, att⟩]
      exact handled h f _
    · cases always : k.servedAlways with
      | true =>
        rw [taking_always n always]
        exact handled h f _
      | false =>
        rw [taking_unattached n always (by simpa using att)]
        exact shifts_refuse ..
  · rw [taking_otherwise fun h f m => n ⟨h, f, m⟩]

theorem shifts_takingUnknown (s : State) : Shifts s s.takingUnknown := by
  unfold State.takingUnknown
  split
  · exact .refl
  · split
    · rw [takeFrame_renewLease]
      exact (shifts_taken ..).trans (shifts_refuse ..)
    · exact .refl

/-! ### Every command -/

theorem shifts_selectFall (s : State) (h : HostId) : Shifts s (s.selectFall h) := by
  rw [State.selectFall_eq]
  split
  · exact shifts_of_eq rfl rfl
  · exact .refl

/-- Every command but a reset is a run of shifts. -/
theorem shifts_exec {i : Instr} {s t : State} (other : i.resets = false) (run : exec i s = .next t) : Shifts s t := by
  have reached (e : Nat) : Shifts s (s.reach e) := shifts_of_eq rfl rfl
  have ported {h : HostId} {f : Port → Port} : Shifts s (s.withPort h f) := shifts_of_eq rfl rfl
  cases i <;> cases run
  case powerOn | resetFall | resetRelease => cases other
  case startUpEnd | overdrawCountFull | idleFaultLimit =>
    split
    · exact shifts_completeSlot ..
    · exact .refl
  case slotCompletion => exact shifts_completeSlot ..
  case deratePinChange level =>
    split
    · exact .refl
    · dsimp only
      split <;> exact shifts_of_eq rfl rfl
  case derateHoldExpiry =>
    split
    · exact .refl
    · next e _ =>
      have filtered : Shifts s ((s.reach e).withFilter (!s.budget.derateTaken) none) := shifts_of_eq rfl rfl
      exact filtered.trans (shifts_recompute ..)
  case rampTimerExpiry | graceTimerExpiry =>
    split
    · exact .refl
    · exact (reached _).tail (.trip _ (fun _ _ => ⟨rfl, rfl⟩) _)
  case holdoffTimerExpiry c =>
    split
    · exact .refl
    · next e running =>
      have holds : ((s.reach e).chan c).state = .holdoff := state_of_expiryOf running
      have retried (f : Channel → Channel) : Shift (s.reach e) ((s.reach e).withChannel c f) :=
        .record _ c f fun on => by cases holds.symm.trans on
      exact ((reached e).tail (retried _)).trans (shifts_postHolder ..)
  case dischargeTimerExpiry =>
    split
    · exact .refl
    · next e running =>
      exact (reached e).trans (shifts_acts (acts_endToFaulted _ _ (by simp [state_of_expiryOf running])))
  case leaseExpiry =>
    split
    · split
      · exact .refl
      · exact (reached _).trans (shifts_closeSession ..)
    · exact .refl
  case windowTimerExpiry =>
    split
    · exact .refl
    · exact (reached _).trans (shifts_closeProposal ..)
  case blockingTimerExpiry =>
    split
    · exact .refl
    · exact shifts_of_eq rfl rfl
  case deadlineExpiry =>
    split
    · exact .refl
    · split
      · exact .refl
      · exact ((reached _).trans (shifts_setEntries ..)).trans (shifts_acts ((acts_post ..).trans (acts_scanQueue _)))
  case status =>
    split
    · exact shifts_selectFall ..
    · split <;> exact ported
  case unknownTransaction =>
    split
    · split
      · exact shifts_selectFall ..
      · exact ported
    · exact .refl
  case request | peek =>
    split
    · exact shifts_selectFall ..
    · exact ported
  case take =>
    split
    · exact shifts_selectFall ..
    · exact shifts_of_eq rfl rfl
  case outboxHeadFix =>
    split
    · exact .refl
    · exact ported
  case unknownRequestKind => exact shifts_takingUnknown s
  case queryPart | renew | readSession | readBudget | readQueue | readProposal =>
    exact shifts_taking fun _ _ _ => shifts_bodiless (shifts_respond ..)
  case attach => exact shifts_taking fun _ _ _ => shifts_handleAttach ..
  case detach => exact shifts_taking fun _ _ _ => shifts_bodiless ((shifts_closeSession ..).trans (shifts_respond ..))
  case claim => exact shifts_taking fun _ _ _ => shifts_handleClaim ..
  case cancel => exact shifts_taking fun _ _ _ => shifts_handleCancel ..
  case resize => exact shifts_taking fun _ _ _ => shifts_handleResize ..
  case release => exact shifts_taking fun _ _ _ => shifts_handleRelease ..
  case clearTrip => exact shifts_taking fun _ _ _ => shifts_handleClearTrip ..
  case readChannel => exact shifts_taking fun _ _ _ => shifts_handleReadChannel ..
  case readTally => exact shifts_taking fun _ _ _ => shifts_handleReadTally ..
  case readConfig => exact shifts_taking fun _ _ _ => shifts_handleReadConfig ..
  case propose => exact shifts_taking fun _ _ _ => shifts_handlePropose ..
  case consent => exact shifts_taking fun _ _ _ => shifts_handleConsent ..
  case dissent => exact shifts_taking fun _ _ _ => shifts_handleDissent ..
  case withdraw => exact shifts_taking fun _ _ _ => shifts_handleWithdraw ..

/-- A law that holds after every reset and that every shift keeps is kept by every step. -/
theorem kept_of_shifts {law : State → Prop} (started : ∀ s straps ports, law (started s straps ports))
    (fallen : ∀ s straps ports meas, (∀ c, (meas.read c).overdraw = 0) → law (fallen s straps ports meas))
    (shift : ∀ {s t}, Shift s t → law s → law t) : Kept law := by
  intro s t l run
  unfold step at run
  split at run
  · cases run
    exact shift (s := s) (.same ⟨fun _ => rfl, fun _ => rfl⟩) l
  · next i rest _ =>
    have l' : law { s with pending := rest } := shift (s := s) (.same ⟨fun _ => rfl, fun _ => rfl⟩) l
    cases kind : i.resets with
    | true =>
      rcases resets_cases kind run with rfl | ⟨straps, ports, rfl⟩ | ⟨-, straps, rfl⟩
      · exact l'
      · exact started ..
      · refine fallen _ _ _ _ fun c => ?_
        exact congrArg Measurement.overdraw (resetBlocks_measure _ Port.fallen straps c)
    | false =>
      have shifts := shifts_exec kind run
      clear run
      induction shifts with
      | refl => exact l'
      | tail _ st ih => exact shift st ih

end Sys2Proof
end

section
/-! The overdraw count through every step (R105, R108). -/

namespace Sys2Proof

open Machine

/-! ### The overdraw count -/

/-- An overdraw count that is right for a channel's record: below 128, and 0 outside ON (R105). -/
def Counted (ch : Channel) (n : Nat) : Prop := n < Config.overdrawFull ∧ (ch.state ≠ .on → n = 0)

theorem counted_zero (ch : Channel) : Counted ch 0 := ⟨by decide, fun _ => rfl⟩

theorem overdrawLaw_iff (s : State) : OverdrawLaw s ↔ ∀ c, Counted (s.chan c) (s.measure c).overdraw := Iff.rfl

theorem ActTurn.counted {now n m : Nat} {ch ch' : Channel} (turn : ActTurn now ch n ch' m) (law : Counted ch n) :
    Counted ch' m := by
  obtain ⟨below, off⟩ := law
  cases turn with
  | same => exact ⟨below, off⟩
  | grant idle => exact ⟨below, fun _ => off (by simp [idle])⟩
  | rest after _ ungated => exact ⟨below, fun _ => off ungated.2⟩
  | discharge => exact counted_zero _

theorem overdrawAfter_le {limit n : Nat} {power : Int} (below : n < Config.overdrawFull) :
    overdrawAfter limit power n ≤ Config.overdrawFull := by
  unfold overdrawAfter
  split
  · exact Nat.min_le_right ..
  · omega

/-- A sample whose verdict is no trip has not carried the count to 128 (R105, R109). -/
theorem counted_of_calm {s : State} {c : ChanId} {r : Reading} (calm : s.verdict c r = .none)
    (law : Counted (s.chan c) (s.measure c).overdraw) : Counted (s.chan c) (s.countAfter c r) := by
  by_cases on : (s.chan c).state = .on
  · have short : s.countAfter c r ≠ Config.overdrawFull := fun full => by simp [State.verdict, on, full, ite_eq_iff] at calm
    have most : s.countAfter c r ≤ Config.overdrawFull := by
      rw [State.countAfter, if_pos on]
      exact overdrawAfter_le law.1
    exact ⟨Nat.lt_of_le_of_ne most short, fun off => absurd on off⟩
  · rwa [State.countAfter, if_neg on]

theorem sampled_overdraw (s : State) (c : ChanId) (r : Reading) :
    ((sampled s c r).measure c).overdraw = s.countAfter c r := by
  unfold sampled State.tallySample
  split <;> simp [State.withMeasure_measure]

theorem overdrawLaw_shift {s t : State} (shift : Shift s t) (law : OverdrawLaw s) : OverdrawLaw t := by
  rw [overdrawLaw_iff] at law ⊢
  intro d
  cases shift with
  | acts a =>
    exact a.keeps (law := fun u => Counted (u.chan d) (u.measure d).overdraw)
      (fun _ _ law a => (turn_act a d).counted law) (law d)
  | same same =>
    rw [same.chan, same.overdraw]
    exact law d
  | record c f stays =>
    rw [State.withChannel_chan]
    split
    · next here =>
      subst here
      exact ⟨(law d).1, fun off => (law d).2 fun on => off (stays on)⟩
    · exact law d
  | sample c r calm =>
    rw [sampled_chan]
    by_cases here : d = c
    · subst here
      rw [sampled_overdraw]
      exact counted_of_calm calm (law d)
    · rw [sampled_measure_of_ne s here]
      exact law d
  | trip c others k =>
    by_cases here : d = c
    · rw [trip_measure, if_pos here]
      exact counted_zero _
    · obtain ⟨chan, measure⟩ := others d here
      rw [trip_measure, if_neg here, trip_chan, if_neg here, chan, measure]
      exact law d

/-- R105 through every step: by what a shift makes of a count. -/
theorem overdrawLaw_kept : Kept OverdrawLaw := by
  have reset : OverdrawLaw State.reset := fun c => by
    rw [State.measure, State.reset, Table.read_const]
    exact counted_zero _
  refine kept_of_shifts (fun _ _ _ => reset) (fun s straps ports meas zero c => ?_) overdrawLaw_shift
  rw [fallen_measure, zero]
  exact counted_zero _

/-- Settles O29: gates and records by the acts and turns of a channel, overdraw counts by the shifts of a step. -/
theorem gateAndOverdrawLawsKept : Obligations.GateAndOverdrawLawsKept := ⟨gateLaw_kept, overdrawLaw_kept, recordLaw_kept⟩

end Sys2Proof
end

section
/-! What admissions and the other acts make of the measurement records (R23, R86, R102, R104). -/

namespace Sys2Proof

open Machine

/-! ### Admissions -/

/-- Channels that were not free stand as they stood, and a measurement record that changed is that of a channel which was free,
restarted. -/
structure Admits (s t : State) : Prop extends KeepsTaken s t where
  averaging : t.config.averaging = s.config.averaging
  measure : ∀ c, t.measure c = s.measure c ∨ Free s c ∧ t.measure c = (s.measure c).restart s.config.averaging

theorem Admits.of_untouched {s t : State} (grants : t.grants = s.grants) (channels : t.channels = s.channels)
    (averaging : t.config.averaging = s.config.averaging) (meas : t.meas = s.meas) : Admits s t where
  toKeepsTaken := keepsTaken_of_same grants channels
  averaging := averaging
  measure c := .inl (by simp [State.measure, meas])

theorem Admits.refl (s : State) : Admits s s := .of_untouched rfl rfl rfl rfl

theorem KeepsTaken.free {s t : State} (keeps : KeepsTaken s t) {c : ChanId} (free : Free t c) : Free s c := by
  by_contra taken
  obtain ⟨slot, chan⟩ := keeps.taken c taken
  rw [Free, slot, chan] at free
  exact taken free

theorem Admits.trans {s t u : State} (first : Admits s t) (second : Admits t u) : Admits s u where
  toKeepsTaken := first.toKeepsTaken.trans second.toKeepsTaken
  averaging := second.averaging.trans first.averaging
  measure c := by
    rcases second.measure c with same | ⟨free, restarted⟩
    · rw [same]
      exact first.measure c
    · rw [restarted, first.averaging]
      refine .inr ⟨first.toKeepsTaken.free free, ?_⟩
      rcases first.measure c with same | ⟨-, again⟩
      · rw [same]
      · rw [again]
        rfl

/-- A channel that is not free keeps its measurement record. -/
theorem Admits.measure_of_taken {s t : State} (admits : Admits s t) {c : ChanId} (taken : ¬ Free s c) :
    t.measure c = s.measure c :=
  (admits.measure c).resolve_right fun restarted => taken restarted.1

theorem createGrants_measure (e : WaitEntry) (c : ChanId) (is : List Item) : ∀ s : State,
    (s.createGrants e is).1.measure c =
      if c ∈ is.map Item.channel then (s.measure c).restart s.config.averaging else s.measure c := by
  induction is with
  | nil => exact fun s => rfl
  | cons i rest ih =>
    intro s
    rw [createGrants_cons, ih, State.createGrant_measure, State.createGrant_config]
    by_cases here : c = i.channel
    · simp [here, Measurement.restart]
    · simp [here]

theorem admits_setEntries (s : State) (es : List WaitEntry) : Admits s (s.setEntries es) := by
  rw [State.setEntries_eq]
  exact .of_untouched rfl rfl rfl rfl

theorem admits_post (s : State) (h : HostId) (n : Notice) : Admits s (s.post h n) := by
  rw [State.post_eq]
  exact .of_untouched rfl rfl rfl rfl

theorem admits_broadcast (s : State) (n : Notice) : Admits s (s.broadcast n) := by
  rw [State.broadcast_eq]
  exact .of_untouched rfl rfl rfl rfl

theorem admits_postEnded (s : State) (c : ChanId) (g : Grant) : Admits s (s.postEnded c g) := by
  rw [State.postEnded_eq]
  exact .of_untouched rfl rfl rfl rfl

theorem admits_endClosing (s : State) (h : HostId) : Admits s (s.endClosing h) := by
  rw [endClosing_eq]
  exact .of_untouched rfl rfl rfl rfl

/-- An admission restarts the rings and the peaks of the channels its entry names (R23, R102, R104). -/
theorem admits_admitEntry {s : State} {e : WaitEntry} (adm : s.admissible e = true) : Admits s (s.admitEntry e).1 where
  toKeepsTaken := keepsTaken_admitEntry adm
  averaging := congrArg Configuration.averaging ((quiet_createGrants s e e.items).trans (quiet_setEntries ..)).config
  measure c := by
    have out : (s.admitEntry e).1.measure c = (s.createGrants e e.items).1.measure c := by
      rw [State.admitEntry, State.takeOut, State.setEntries_eq]
      rfl
    rw [out, createGrants_measure]
    split
    · next named =>
      obtain ⟨i, m, rfl⟩ := List.mem_map.1 named
      exact .inr ⟨free_of_admissible adm i m, rfl⟩
    · exact .inl rfl

theorem admits_scanQueue (s : State) : Admits s s.scanQueue :=
  scanWalk_relates .refl .trans (fun _ _ => admits_admitEntry) admits_post ..

theorem admits_failEntries (s : State) (p : WaitEntry → Bool) (k : FailCause) : Admits s (s.failEntries p k) := by
  have told (es : List WaitEntry) : Admits s (s.postFailed k es) := by
    rw [postFailed_eq]
    exact .of_untouched rfl rfl rfl rfl
  rw [failEntries_eq]
  exact (told _).trans (admits_setEntries ..)

theorem admits_failAndScan (s : State) (p : WaitEntry → Bool) (k : FailCause) : Admits s (s.failAndScan p k) := by
  unfold State.failAndScan
  split
  · exact (admits_failEntries ..).trans (admits_scanQueue _)
  · exact .refl _

theorem admits_announceFault (s : State) (c : ChanId) : Admits s (s.announceFault c) :=
  (admits_broadcast ..).trans (admits_failAndScan ..)

/-! ### Acts -/

/-- An act sets a channel's overdraw count, or restarts its ring and its peak (R23, R86). -/
theorem measure_act {s t : State} (a : Act s t) (c : ChanId) :
    (∃ n, t.measure c = { s.measure c with overdraw := n }) ∨ t.measure c = (s.measure c).restart s.config.averaging := by
  have kept {u : State} (same : u.meas = s.meas) : ∃ n, u.measure c = { s.measure c with overdraw := n } :=
    ⟨_, by rw [State.measure, same]; rfl⟩
  cases a with
  | admitEntry e _ adm => exact ((admits_admitEntry adm).measure c).imp (fun same => ⟨_, same⟩) And.right
  | discharge d g =>
    refine .inl ⟨if c = d then 0 else (s.measure c).overdraw, ?_⟩
    simp only [State.startDischarge, State.withReleasing_measure, State.withMeasure_measure, State.withChannel_measure]
    split <;> rfl
  | post => exact .inl (kept (by rw [State.post_eq]))
  | leave => exact .inl (kept (by rw [State.setEntries_eq]))
  | finish => exact .inl (kept (by rw [removeGrant_eq]))
  | close => exact .inl (kept (by rw [endClosing_eq]))
  | mark | fault => exact .inl (kept rfl)

end Sys2Proof
end

section
/-! Samples that quarantine their channel or end its grant (R74, R76, R87). -/

namespace Sys2Proof

open Machine

/-- A sample that `Uneventful` leaves out quarantines the channel or ends its grant (R74, R76, R87). -/
theorem sampleArrival_of_eventful {s : State} {c : ChanId} {off : Bool} (good : Bool)
    (eventful : ¬ Uneventful off (s.chan c)) :
    (s.chan c).state = .idle ∧ s.sampleArrival c off good .none = s.faultIdle c ∨
      (s.chan c).state = .checking ∧ s.sampleArrival c off good .none = (s.markCause c .switchFault).endToFaulted c ∨
      (s.chan c).state = .discharging ∧ off = true ∧ s.sampleArrival c off good .none = s.endToIdle c := by
  cases state : (s.chan c).state <;> simp only [Uneventful, state, State.sampleArrival] at eventful ⊢
  case idle =>
    simp only [forall_const, reduceCtorEq, false_imp_iff, and_true, Classical.not_imp] at eventful
    obtain ⟨on, limit⟩ := eventful
    exact .inl ⟨trivial, by rw [State.sampleIdle, if_neg (by simp [on]), if_neg limit]⟩
  case checking =>
    have on : ¬ off = true := by simpa using eventful
    exact .inr (.inl ⟨trivial, if_neg on⟩)
  case discharging =>
    have isOff : off = true := by simpa using eventful
    exact .inr (.inr ⟨trivial, isOff, if_pos isOff⟩)
  all_goals simp at eventful

/-- Such a sample is a run of acts. -/
theorem acts_of_eventful {s : State} {c : ChanId} {off : Bool} (good : Bool) (eventful : ¬ Uneventful off (s.chan c)) :
    Acts s (s.sampleArrival c off good .none) := by
  rcases sampleArrival_of_eventful good eventful with ⟨state, eq⟩ | ⟨state, eq⟩ | ⟨state, -, eq⟩ <;> rw [eq]
  · exact acts_faultIdle s c state
  · exact (Acts.single (.mark ..)).trans (acts_endToFaulted _ _ (by simp [state]))
  · exact acts_endToIdle _ _ (by simp [state])

end Sys2Proof
end

section
/-! The laws of rings, peaks and tallies through every step (R101, R102, R104, R116): every command leads from states that have
them to states that have them. -/

namespace Sys2Proof

open Machine

/-! ### The laws, carried from one state to another -/

/-- Each of the three laws of measurement, where it holds in `s`, holds in `t`. The laws see the measurement records, the tallies
and the averaging exponent alone. -/
def Metered (s t : State) : Prop :=
  (RingLaw s → RingLaw t) ∧ (PeakLaw s → PeakLaw t) ∧ (TallyLaw s → TallyLaw t)

theorem Metered.refl (s : State) : Metered s s := ⟨id, id, id⟩

theorem Metered.trans {s t u : State} (first : Metered s t) (second : Metered t u) : Metered s u := by
  obtain ⟨ring, peak, tally⟩ := first
  obtain ⟨ring', peak', tally'⟩ := second
  exact ⟨ring' ∘ ring, peak' ∘ peak, tally' ∘ tally⟩

theorem metered_of_eq {s t : State} (meas : t.meas = s.meas) (tallies : t.tallies = s.tallies)
    (averaging : t.config.averaging = s.config.averaging) : Metered s t := by
  simp only [Metered, RingLaw, PeakLaw, TallyLaw, State.measure, State.tally, meas, tallies, averaging]
  exact ⟨id, id, id⟩

theorem tallyLaw_of_same {s t : State} (tallies : t.tallies = s.tallies) (law : TallyLaw s) : TallyLaw t := by
  simpa only [TallyLaw, State.tally, tallies] using law

theorem metered_act {s t : State} (a : Act s t) : Metered s t := by
  refine ⟨fun law c => ?_, fun law c => ?_, tallyLaw_of_same a.quiet.tallies⟩
  · rw [a.quiet.config]
    rcases measure_act a c with ⟨n, eq⟩ | eq <;> rw [eq]
    · exact law c
    · exact List.length_replicate
  · rcases measure_act a c with ⟨n, eq⟩ | eq <;> rw [eq]
    · exact law c
    · exact le_rfl

theorem metered_acts {s t : State} (a : Acts s t) : Metered s t :=
  a.relates .refl (fun _ _ _ => .trans) fun _ _ => metered_act

/-- One record replaced by another that keeps the length of the ring and a peak at 0 or more. -/
theorem metered_withMeasure {s : State} {c : ChanId} {f : Measurement → Measurement}
    (ring : (s.measure c).ring.length = 2 ^ s.config.averaging → (f (s.measure c)).ring.length = 2 ^ s.config.averaging)
    (peak : 0 ≤ (s.measure c).peak → 0 ≤ (f (s.measure c)).peak) : Metered s (s.withMeasure c f) := by
  refine ⟨fun law d => ?_, fun law d => ?_, id⟩ <;> rw [State.withMeasure_measure] <;> split
  · next here => exact here ▸ ring (law c)
  · exact law d
  · next here => exact here ▸ peak (law c)
  · exact law d

/-- A tally in its ranges (R116). -/
def Tally.InRange (t : Tally) : Prop :=
  t.accumulator < Config.tallyModulus ∧ t.rollovers < Config.rolloverModulus ∧ t.samples < Config.tallyModulus

theorem metered_withTally {s : State} {h : HostId} {f : Tally → Tally}
    (range : Tally.InRange (s.tally h) → Tally.InRange (f (s.tally h))) : Metered s (s.withTally h f) := by
  refine ⟨id, id, fun law k => ?_⟩
  rw [State.withTally_tally]
  split
  · next here => exact here ▸ range (law h)
  · exact law k

theorem inRange_zero : Tally.InRange Tally.zero := by
  unfold Tally.InRange
  decide

/-- A sample counted leaves the accumulator and both counts below their moduli (R117 to R119). -/
theorem inRange_count {t : Tally} (range : Tally.InRange t) (power : Int) : Tally.InRange (t.count power) := by
  obtain ⟨-, rollovers, -⟩ := range
  refine ⟨Nat.mod_lt _ (by decide), ?_, Nat.mod_lt _ (by decide)⟩
  rw [Tally.count]
  split
  · exact rollovers
  · exact Nat.mod_lt _ (by decide)

/-- With every ring restarted at the exponent in force and every peak 0, the laws of rings and peaks hold whatever held before
(R102, R103, R104). -/
theorem metered_restartRings {s t : State} (tallies : t.tallies = s.tallies) : Metered s t.restartRings := by
  refine ⟨fun _ c => ?_, fun _ c => ?_, tallyLaw_of_same (by rw [State.restartRings_eq]; exact tallies)⟩
  · rw [State.restartRings_measure, State.restartRings_eq]
    exact List.length_replicate
  · rw [State.restartRings_measure]
    exact le_rfl

/-! ### Samples and channel timers -/

theorem metered_tallySample (s : State) (c : ChanId) (power : Int) : Metered s (s.tallySample c power) := by
  unfold State.tallySample
  split
  · exact .refl s
  · exact metered_withTally fun range => inRange_count range power

/-- A sample's power takes the place of the oldest one of the ring, and the peak rises or stays (R101, R104). -/
theorem metered_sampled (s : State) (c : ChanId) (r : Reading) : Metered s (sampled s c r) := by
  have recorded (n : Nat) : Metered s (s.withMeasure c fun m => { m.record s.config.averaging r with overdraw := n }) := by
    refine metered_withMeasure (fun length => ?_) fun peak => le_max_of_le_left peak
    have some := Nat.two_pow_pos s.config.averaging
    simp only [Measurement.record, List.length_append, List.length_drop, List.length_singleton]
    omega
  exact (recorded _).trans (metered_tallySample ..)

theorem metered_postHolder (s : State) (c : ChanId) (n : Grant → Notice) : Metered s (s.postHolder c n) := by
  rw [postHolder_eq]
  exact .refl s

theorem metered_trip (s : State) (c : ChanId) (k : TripCause) : Metered s (s.trip c k) := by
  rw [trip_eq]
  exact metered_withMeasure id id

theorem metered_sampleArrival (s : State) (c : ChanId) (off good : Bool) (v : Verdict) :
    Metered s (s.sampleArrival c off good v) := by
  cases v with
  | overdraw => exact metered_trip s c .overdraw
  | severe => exact metered_trip s c .severe
  | none =>
    by_cases calm : Uneventful off (s.chan c)
    · rw [sampleArrival_of_uneventful good calm]
      exact metered_of_eq rfl rfl rfl
    · exact metered_acts (acts_of_eventful good calm)

theorem metered_completeSlot (s : State) (c : ChanId) (r : Reading) : Metered s (s.completeSlot c r) := by
  unfold State.completeSlot
  split
  · exact .refl s
  · next sc _ =>
    split
    · rw [State.countRound_eq]
      exact (metered_sampled (s.advanceScan sc) c (sampleOf r)).trans (metered_sampleArrival ..)
    · exact .refl s

/-! ### Requests -/

theorem metered_respond (s : State) (h : HostId) (f : Frame) (a : Answer) : Metered s (s.respond h f a) :=
  metered_of_eq rfl rfl rfl

theorem metered_refuse (s : State) (h : HostId) (f : Frame) (r : Reason) : Metered s (s.refuse h f r) := metered_respond ..

theorem metered_setEntries (s : State) (es : List WaitEntry) : Metered s (s.setEntries es) := by
  rw [State.setEntries_eq]
  exact .refl s

theorem metered_bodiless {s : State} {h : HostId} {f : Frame} {answer : State → State} (m : Metered s (answer s)) :
    Metered s (s.bodiless h f answer) := by
  unfold State.bodiless
  split
  · exact m
  · exact metered_refuse ..

theorem metered_handleClaim (s : State) (h : HostId) (f : Frame) : Metered s (handleClaim h f s) := by
  have placed (e : WaitEntry) : Metered s (s.place e) := metered_setEntries ..
  have scanned {t : State} (placed : Metered s t) : Metered s (t.scanFor h f.tag).1 :=
    placed.trans (metered_acts (acts_scanFor ..))
  unfold handleClaim
  split
  · exact metered_refuse ..
  · split
    · exact metered_refuse ..
    · split
      · unfold State.claimWait
        split
        · exact metered_refuse ..
        · have counted (t : State) : Metered t t.advanceArrival := metered_of_eq rfl rfl rfl
          have queued (e : WaitEntry) := scanned ((placed e).trans (counted _))
          dsimp only
          split <;> exact (queued _).trans (metered_respond ..)
      · have tried (e : WaitEntry) := scanned (placed e)
        unfold State.claimNoWait
        dsimp only
        split
        · exact (tried _).trans (metered_respond ..)
        all_goals exact ((tried _).trans (metered_setEntries ..)).trans (metered_respond ..)

theorem metered_handleCancel (s : State) (h : HostId) (f : Frame) : Metered s (handleCancel h f s) := by
  unfold handleCancel
  split
  · split
    · exact metered_refuse ..
    · exact ((metered_setEntries ..).trans (metered_acts (acts_scanQueue _))).trans (metered_respond ..)
  · exact metered_refuse ..

theorem metered_handleResize (s : State) (h : HostId) (f : Frame) : Metered s (handleResize h f s) := by
  have replaced (c : ChanId) (g : Grant) (amount : Nat) : Metered s (s.setAmount c g amount) := metered_of_eq rfl rfl rfl
  unfold handleResize
  split
  · split
    · exact metered_refuse ..
    · unfold State.resizeChecked
      split
      · exact metered_refuse ..
      · split_ifs
        · exact metered_refuse ..
        · exact metered_refuse ..
        · exact metered_refuse ..
        · exact metered_respond ..
        · exact ((replaced ..).trans (metered_acts (acts_scanQueue _))).trans (metered_respond ..)
        · unfold State.resizeUp
          split_ifs
          · exact metered_refuse ..
          · exact metered_respond ..
          · exact (replaced ..).trans (metered_respond ..)
        · exact metered_refuse ..
  · exact metered_refuse ..

theorem metered_handleRelease (s : State) (h : HostId) (f : Frame) : Metered s (handleRelease h f s) := by
  unfold handleRelease
  split
  · exact metered_refuse ..
  · next c _ =>
    have released := metered_acts (acts_releaseGrant s c .released)
    unfold State.releaseChecked
    split
    · exact metered_refuse ..
    · split
      · exact metered_refuse ..
      · split
        case h_1 | h_2 | h_3 | h_4 | h_5 => exact released.trans (metered_respond ..)
        case h_6 | h_7 | h_8 => exact metered_refuse ..

/-- CLEAR_TRIP restarts the channel and leaves its measurements. -/
theorem metered_handleClearTrip (s : State) (h : HostId) (f : Frame) : Metered s (handleClearTrip h f s) := by
  unfold handleClearTrip State.clearTripChecked
  repeat' split
  all_goals exact metered_of_eq rfl rfl rfl

/-- A peak cleared is 0, and so not below 0 (R104, R112). -/
theorem metered_handleReadChannel (s : State) (h : HostId) (f : Frame) : Metered s (handleReadChannel h f s) := by
  have cleared (c : ChanId) : Metered s (s.withMeasure c fun m => { m with peak := 0 }) :=
    metered_withMeasure id fun _ => le_rfl
  unfold handleReadChannel
  split
  · split
    · exact metered_refuse ..
    · exact metered_refuse ..
    · unfold State.readChannelChecked
      split_ifs
      · exact (cleared _).trans (metered_respond ..)
      · exact metered_refuse ..
      · exact metered_respond ..
  · exact metered_refuse ..

theorem metered_zeroTally (s : State) (h : HostId) : Metered s (s.withTally h fun _ => Tally.zero) :=
  metered_withTally fun _ => inRange_zero

theorem metered_handleReadTally (s : State) (h : HostId) (f : Frame) : Metered s (handleReadTally h f s) := by
  unfold handleReadTally
  split
  · split
    · exact metered_refuse ..
    · split
      · exact (metered_zeroTally ..).trans (metered_respond ..)
      · exact metered_respond ..
  · exact metered_refuse ..

theorem metered_handleReadConfig (s : State) (h : HostId) (f : Frame) : Metered s (handleReadConfig h f s) := by
  unfold handleReadConfig
  repeat' split
  all_goals exact metered_respond ..

theorem metered_handleAttach (s : State) (h : HostId) (f : Frame) : Metered s (handleAttach h f s) := by
  have opened (r : Session → Session) : Metered s (s.withSession h r) := metered_of_eq rfl rfl rfl
  unfold handleAttach
  split
  · split
    · exact ((opened _).trans (metered_zeroTally ..)).trans (metered_respond ..)
    · exact metered_refuse ..
  · exact metered_refuse ..
  · exact metered_refuse ..

/-! ### Adoptions and proposals -/

theorem metered_recompute (s : State) (k : BudgetCause) : Metered s (s.recompute k) :=
  have leveled : Metered s (s.withTotal s.selectedLevel) := metered_of_eq rfl rfl rfl
  leveled.trans (metered_acts (acts_recompute s k))

/-- RESET_PART zeroes every tally, and restarts every ring at the default exponent, whatever the recomputation made of them
(R102, R120, R165). -/
theorem metered_adoptResetPart (s : State) : Metered s s.adoptResetPart := by
  rw [State.adoptResetPart]
  generalize State.recompute _ _ = t
  obtain ⟨ring, peak, -⟩ := metered_restartRings (s := { s with tallies := t.tallies }) (t := t) rfl
  refine ⟨ring, peak, fun _ h => ?_⟩
  change Tally.InRange ((Table.const 4 Tally.zero).read h)
  rw [Table.read_const]
  exact inRange_zero

/-- Only SET_AVERAGING and RESET_PART change the averaging exponent, and both restart the rings (R103, R165). -/
theorem metered_adopt (s : State) (straps : BitVec 2) (ch : Change) : Metered s (s.adopt straps ch) := by
  have configured (k : Configuration) (averaging : k.averaging = s.config.averaging) : Metered s (s.withConfig fun _ => k) :=
    metered_of_eq rfl rfl averaging
  cases ch with
  | setBudget n d => exact (configured { s.config with normal := n, derated := d } rfl).trans (metered_recompute ..)
  | setCeiling c v =>
    exact (configured (s.withSettings c fun k => { k with ceiling := v }).config rfl).trans
      (metered_acts (acts_failAndScan ..))
  | setChannelTiming | setLease => exact configured _ rfl
  | setHostCap h v =>
    refine (configured { s.config with caps := s.config.caps.upd h fun _ => v } rfl).trans (metered_acts ?_)
    rw [State.adopt, State.adoptCap]
    split
    · exact (acts_failEntries ..).trans (acts_scanQueue _)
    · exact acts_failEntries ..
  | setQueueAge a =>
    have judged : Metered s (s.withConfig fun k => { k with blockingAge := a }).judgeHead := metered_of_eq rfl rfl rfl
    rw [State.adopt, State.adoptQueueAge]
    split
    · exact judged.trans (metered_acts (acts_scanQueue _))
    · exact judged
  | setAveraging => exact metered_restartRings rfl
  | clearChannelFault =>
    rw [State.adopt, State.adoptClearFault]
    split <;> exact .refl s
  | forceRelease =>
    rw [State.adopt, State.adoptForceRelease]
    split
    · exact .refl s
    · split
      · exact metered_acts (acts_releaseGrant ..)
      · exact .refl s
  | resetPart =>
    have read : Metered s (s.readStraps straps) := metered_of_eq rfl rfl rfl
    exact read.trans (metered_adoptResetPart _)

/-- A proposal opened, replaced or dropped is nothing to the laws. -/
theorem metered_withProposal (s : State) (o : Option Proposal) : Metered s (s.withProposal o) := metered_of_eq rfl rfl rfl

theorem metered_adoptProposal (s : State) (straps : BitVec 2) (p : Proposal) : Metered s (s.adoptProposal straps p) :=
  ((metered_withProposal s none).trans (metered_adopt ..)).trans (metered_acts (acts_broadcast ..))

theorem metered_closeProposal (s : State) (p : Proposal) (o : CloseOutcome) (d : Option HostId) :
    Metered s (s.closeProposal p o d) := (metered_withProposal s none).trans (metered_acts (acts_broadcast ..))

theorem metered_handlePropose (s : State) (straps : BitVec 2) (h : HostId) (f : Frame) :
    Metered s (handlePropose straps h f s) := by
  have counted : Metered s s.advanceProposal := metered_of_eq rfl rfl rfl
  unfold handlePropose
  split
  · exact metered_refuse ..
  · split
    · exact metered_refuse ..
    · split
      · exact metered_refuse ..
      · unfold State.openProposal
        dsimp only
        split
        · exact (counted.trans (metered_adoptProposal ..)).trans (metered_respond ..)
        · exact ((counted.trans (metered_withProposal ..)).trans (metered_acts (acts_postOpened ..))).trans
            (metered_respond ..)

theorem metered_withOpen {s : State} {h : HostId} {f : Frame} {act : Proposal → State → State}
    (acts : ∀ p, Metered s (act p s)) : Metered s (s.withOpen h f act) := by
  unfold State.withOpen
  split
  · split
    · exact metered_refuse ..
    · exact acts _
  · exact metered_refuse ..

theorem metered_handleConsent (s : State) (straps : BitVec 2) (h : HostId) (f : Frame) :
    Metered s (handleConsent straps h f s) := by
  refine metered_withOpen fun p => ?_
  unfold State.consentTo
  split
  · exact metered_refuse ..
  · split
    · exact metered_respond ..
    · dsimp only
      split
      · exact (metered_adoptProposal ..).trans (metered_respond ..)
      · exact (metered_withProposal ..).trans (metered_respond ..)

theorem metered_handleDissent (s : State) (h : HostId) (f : Frame) : Metered s (handleDissent h f s) := by
  refine metered_withOpen fun p => ?_
  split
  · exact metered_refuse ..
  · exact (metered_closeProposal ..).trans (metered_respond ..)

theorem metered_handleWithdraw (s : State) (h : HostId) (f : Frame) : Metered s (handleWithdraw h f s) := by
  refine metered_withOpen fun p => ?_
  split
  · exact (metered_closeProposal ..).trans (metered_respond ..)
  · exact metered_refuse ..

theorem metered_closeSession (s : State) (straps : BitVec 2) (h : HostId) (cause : CloseCause) :
    Metered s (s.closeSession straps h cause) := by
  have closed : Metered s (justClosed s h cause) := metered_of_eq rfl rfl rfl
  have torn : Metered (emptied s h cause) ((emptied s h cause).consentTeardown straps h) :=
    consentTeardown_cases straps (fun _ => .refl _) (fun _ => metered_closeProposal ..)
      (fun _ => metered_adoptProposal ..) fun _ => metered_withProposal ..
  rw [closeSession_eq]
  exact ((closed.trans (metered_acts (acts_emptied ..))).trans torn).trans (metered_act (.close ..))

/-! ### Every command -/

/-- A request row, through its taking, which the laws do not see (R186). -/
theorem metered_taking {s : State} {k : RequestKind} {handle : HostId → Frame → State → State}
    (handled : ∀ h f t, Metered t (handle h f t)) : Metered s (s.taking k handle) := by
  by_cases n : ∃ h f, Next k s h f
  · obtain ⟨h, f, n⟩ := n
    by_cases att : s.attached h = true
    · rw [taking_served ⟨n, att⟩]
      exact handled h f (taken s h)
    · cases always : k.servedAlways with
      | true =>
        rw [taking_always n always]
        exact handled h f (taken s h)
      | false =>
        rw [taking_unattached n always (by simpa using att)]
        exact .refl s
  · rw [taking_otherwise fun h f m => n ⟨h, f, m⟩]
    exact .refl s

theorem metered_takingUnknown (s : State) : Metered s s.takingUnknown := by
  unfold State.takingUnknown
  split
  · exact .refl s
  · split
    · rw [takeFrame_renewLease]
      exact .refl s
    · exact .refl s

theorem metered_selectFall (s : State) (h : HostId) : Metered s (s.selectFall h) := by
  rw [State.selectFall_eq]
  split <;> exact .refl s

theorem metered_exec {i : Instr} {s t : State} (other : i.resets = false) (run : exec i s = .next t) : Metered s t := by
  have reached (e : Nat) : Metered s (s.reach e) := metered_of_eq rfl rfl rfl
  cases i <;> cases run
  case powerOn | resetFall | resetRelease => cases other
  case startUpEnd | overdrawCountFull | idleFaultLimit =>
    split
    · exact metered_completeSlot ..
    · exact .refl s
  case slotCompletion => exact metered_completeSlot ..
  case deratePinChange =>
    split
    · exact .refl s
    · dsimp only
      split <;> exact .refl s
  case derateHoldExpiry =>
    split
    · exact .refl s
    · next e _ =>
      have filtered : Metered s ((s.reach e).withFilter (!s.budget.derateTaken) none) := metered_of_eq rfl rfl rfl
      exact filtered.trans (metered_recompute ..)
  case rampTimerExpiry | graceTimerExpiry =>
    split
    · exact .refl s
    · exact (reached _).trans (metered_trip ..)
  case holdoffTimerExpiry =>
    split
    · exact .refl s
    · next e _ => exact metered_postHolder ((s.reach e).withChannel _ _) ..
  case dischargeTimerExpiry =>
    split
    · exact .refl s
    · next e running => exact (reached e).trans (metered_acts (acts_endToFaulted _ _ (by simp [state_of_expiryOf running])))
  case leaseExpiry =>
    split
    · split
      · exact .refl s
      · exact (reached _).trans (metered_closeSession ..)
    · exact .refl s
  case windowTimerExpiry =>
    split
    · exact .refl s
    · exact (reached _).trans (metered_closeProposal ..)
  case blockingTimerExpiry => split <;> exact .refl s
  case deadlineExpiry =>
    split
    · exact .refl s
    · split
      · exact .refl s
      · next e _ =>
        exact ((reached e).trans (metered_setEntries ..)).trans (metered_acts ((acts_post ..).trans (acts_scanQueue _)))
  case status =>
    split
    · exact metered_selectFall ..
    · split <;> exact .refl s
  case unknownTransaction =>
    split
    · split
      · exact metered_selectFall ..
      · exact .refl s
    · exact .refl s
  case request | peek | take =>
    split
    · exact metered_selectFall ..
    · exact .refl s
  case outboxHeadFix => split <;> exact .refl s
  case unknownRequestKind => exact metered_takingUnknown s
  case queryPart | renew | readSession | readBudget | readQueue | readProposal =>
    exact metered_taking fun _ _ _ => metered_bodiless (metered_respond ..)
  case attach => exact metered_taking fun _ _ _ => metered_handleAttach ..
  case detach => exact metered_taking fun _ _ _ => metered_bodiless ((metered_closeSession ..).trans (metered_respond ..))
  case claim => exact metered_taking fun _ _ _ => metered_handleClaim ..
  case cancel => exact metered_taking fun _ _ _ => metered_handleCancel ..
  case resize => exact metered_taking fun _ _ _ => metered_handleResize ..
  case release => exact metered_taking fun _ _ _ => metered_handleRelease ..
  case clearTrip => exact metered_taking fun _ _ _ => metered_handleClearTrip ..
  case readChannel => exact metered_taking fun _ _ _ => metered_handleReadChannel ..
  case readTally => exact metered_taking fun _ _ _ => metered_handleReadTally ..
  case readConfig => exact metered_taking fun _ _ _ => metered_handleReadConfig ..
  case propose => exact metered_taking fun _ _ _ => metered_handlePropose ..
  case consent => exact metered_taking fun _ _ _ => metered_handleConsent ..
  case dissent => exact metered_taking fun _ _ _ => metered_handleDissent ..
  case withdraw => exact metered_taking fun _ _ _ => metered_handleWithdraw ..

/-- A reset leaves rings of the default length, peaks at 0 and tallies at 0 (R102, R104, R114, R125). -/
theorem metered_resets {i : Instr} {s t : State} (kind : i.resets = true) (run : exec i s = .next t) : Metered s t := by
  obtain ⟨-, -, -, -, -, -, ring, peak, tally, -⟩ := resetStateIsPowerOnsAndMeetsEveryLaw
  rcases resets_cases kind run with rfl | ⟨straps, ports, rfl⟩ | ⟨-, straps, rfl⟩
  · exact .refl _
  · exact ⟨fun _ => ring, fun _ => peak, fun _ => tally⟩
  · have cleared (c : ChanId) : (s.resetBlocks Port.fallen straps).meas.read c = (s.measure c).cleared :=
      resetBlocks_measure s Port.fallen straps c
    refine ⟨fun _ c => ?_, fun _ c => ?_, fun _ => tally⟩ <;> rw [fallen_measure, cleared]
    · exact List.length_replicate
    · exact le_rfl

/-- Every step carries the three laws. -/
theorem metered_step {s t : State} (run : step s = .next t) : Metered s t := by
  unfold step at run
  split at run
  · cases run
    exact .refl s
  · next i rest _ =>
    have taken : Metered { s with pending := rest } t := by
      cases kind : i.resets with
      | true => exact metered_resets kind run
      | false => exact metered_exec kind run
    exact taken

/-- Settles O36: each law is the one that a step carries. -/
theorem measurementLawsKept : Obligations.MeasurementLawsKept := by
  refine ⟨fun s t law run => ?_, fun s t law run => ?_, fun s t law run => ?_⟩ <;>
    obtain ⟨ring, peak, tally⟩ := metered_step run
  · exact ring law
  · exact peak law
  · exact tally law

end Sys2Proof
end

section
/-! The end of start-up (R115): what the counting of a round makes of the count and of READY. -/

namespace Sys2Proof

open Machine

/-- The completion of slot 7 counts a round while fewer than eight are counted, and the eighth sets READY. -/
theorem countRound_of_short {s : State} (short : s.rounds < 8) :
    s.countRound 7 = { s with rounds := s.rounds + 1, ready := if s.rounds = 7 then true else s.ready } := by
  by_cases eighth : s.rounds = 7 <;> simp [State.countRound, Config.startUpRounds, State.endStartUp, short, eighth]

/-- No other slot's completion counts a round, nor does one after the eighth. -/
theorem countRound_otherwise {s : State} {c : ChanId} (no : ¬ (c = 7 ∧ s.rounds < 8)) : s.countRound c = s := if_neg no

theorem countRound_rounds (s : State) (c : ChanId) :
    (s.countRound c).rounds = if c = 7 ∧ s.rounds < 8 then s.rounds + 1 else s.rounds := by
  split
  · next counts =>
    obtain ⟨rfl, short⟩ := counts
    rw [countRound_of_short short]
  · next no => rw [countRound_otherwise no]

theorem countRound_ready (s : State) (c : ChanId) :
    (s.countRound c).ready = if c = 7 ∧ s.rounds = 7 then true else s.ready := by
  by_cases counts : c = 7 ∧ s.rounds < 8
  · obtain ⟨rfl, short⟩ := counts
    rw [countRound_of_short short]
    simp only [true_and]
  · rw [countRound_otherwise counts, if_neg fun eighth => counts ⟨eighth.1, by omega⟩]

/-- The slot completion as start-up sees it: the next slot in progress, and the round counted from the count and READY as they
stood. -/
theorem completeSlot_countsRound {s : State} {sc : Scan} {c : ChanId} (scan : s.scan = some sc) (here : sc.slot = c)
    (r : Reading) :
    (s.completeSlot c r).scan = some { slot := c + 1, ends := sc.ends + 1 } ∧
      (s.completeSlot c r).rounds = (s.countRound c).rounds ∧ (s.completeSlot c r).ready = (s.countRound c).ready := by
  have calm := (moves_sampleEvent (s.advanceScan sc) c (sampleOf r)).calm
  rw [State.completeSlot_of_slot scan here, countRound_rounds, countRound_rounds, countRound_ready, countRound_ready,
    calm.rounds, calm.ready, State.countRound_eq]
  exact ⟨calm.scan.trans (by rw [State.advanceScan, here]), rfl, rfl⟩

/-- START_UP_END is the completion of slot 7 of the eighth round (log entry 6). -/
theorem exec_startUpEnd {s : State} {sc : Scan} (scan : s.scan = some sc) (here : sc.slot = 7) (rounds : s.rounds = 7)
    (r : Reading) : exec (.startUpEnd r) s = .next (s.completeSlot 7 r) :=
  congrArg _ (if_pos (by simp [State.lastStartUpSlot, scan, here, rounds, Config.startUpRounds]))

/-- Settles O7: the count and READY after a slot completion are those that the counting of its round gives. -/
theorem startUpEndsWithTheEighthRound : Obligations.StartUpEndsWithTheEighthRound := by
  refine ⟨fun s sc r scan here rounds => ?last, fun s sc c r scan here other => ?other⟩
  case last =>
    obtain ⟨slot, count, ready⟩ := completeSlot_countsRound scan here r
    refine ⟨_, exec_startUpEnd scan here rounds r, rfl, ?_, ?_, slot⟩
    · rw [count, countRound_rounds, rounds]
      rfl
    · rw [ready, countRound_ready, rounds]
      rfl
  case other =>
    obtain ⟨-, count, ready⟩ := completeSlot_countsRound scan here r
    exact ⟨_, rfl, by rw [ready, countRound_ready, if_neg other], by rw [count, countRound_rounds]⟩

end Sys2Proof
end

section
/-! READ_CHANNEL and READ_TALLY (R110 to R112, R122, R123): the bodies read, the report, and the clearing after it. -/

namespace Sys2Proof

open Machine

theorem exec_readChannel {s : State} {h : HostId} {f : Frame} (n : Served .readChannel s h f) :
    exec .readChannel s = .next (handleReadChannel h f (taken s h)) := congrArg _ (taking_served n handleReadChannel)

theorem exec_readTally {s : State} {h : HostId} {f : Frame} (n : Served .readTally s h f) :
    exec .readTally s = .next (handleReadTally h f (taken s h)) := congrArg _ (taking_served n handleReadTally)

/-- A byte of 0 or 1 is a flag. -/
theorem flagOf_of_low {k : Byte} (low : k.toNat ≤ 1) : ∃ clear, flagOf k = some clear := by
  by_cases zero : k = 0#8
  · exact ⟨false, if_pos zero⟩
  · have one : k = 1#8 := by bv_omega
    exact ⟨true, (if_neg zero).trans (if_pos one)⟩

section Bodies
variable {s : State} {h : HostId} {f : Frame} {b k : Byte} {c : ChanId} {clear : Bool}

theorem handleReadChannel_of_length (length : f.body.length ≠ 2) : handleReadChannel h f s = s.refuse h f .badValue := by
  unfold handleReadChannel
  split
  · next body => simp [body] at length
  · rfl

theorem handleReadChannel_of_no_flag (body : f.body = [b, k]) (no : flagOf k = none) :
    handleReadChannel h f s = s.refuse h f .badValue := by
  simp only [handleReadChannel, body, no]

theorem handleReadChannel_of_high (body : f.body = [b, k]) (flag : flagOf k = some clear) (high : 8 ≤ b.toNat) :
    handleReadChannel h f s = s.refuse h f .badChannel := by
  simp only [handleReadChannel, body, flag, channelOf_of_high high]

theorem handleReadChannel_of_names (body : f.body = [b, k]) (flag : flagOf k = some clear) (names : b.toNat = c.val) :
    handleReadChannel h f s = s.readChannelChecked h f c clear := by
  simp only [handleReadChannel, body, flag, channelOf_of_names names]

theorem readChannelChecked_of_not_owns (other : s.owns h c = false) :
    s.readChannelChecked h f c true = s.refuse h f .notOwner := by
  simp only [State.readChannelChecked, other, if_true, Bool.false_eq_true, if_false]

theorem readChannelChecked_of_owns (own : s.owns h c = true) :
    s.readChannelChecked h f c true =
      (s.withMeasure c fun m => { m with peak := 0 }).respond h f (.readChannel (s.channelReport c true)) := by
  simp only [State.readChannelChecked, own, if_true]

theorem handleReadTally_of_length (length : f.body.length ≠ 1) : handleReadTally h f s = s.refuse h f .badValue := by
  unfold handleReadTally
  split
  · next body => simp [body] at length
  · rfl

theorem handleReadTally_of_no_flag (body : f.body = [k]) (no : flagOf k = none) :
    handleReadTally h f s = s.refuse h f .badValue := by
  simp only [handleReadTally, body, no]

theorem handleReadTally_of_flag (body : f.body = [k]) (flag : flagOf k = some clear) :
    handleReadTally h f s =
      (if clear then s.withTally h (fun _ => Tally.zero) else s).respond h f
        (.readTally (s.tally h) (s.hostReserved h) clear) := by
  simp only [handleReadTally, body, flag]

end Bodies

/-- Settles O39: each check of R110 with those before it passed, the report of the state the taking leaves, and what is cleared
after it. -/
theorem readChannelAndReadTallyReportAndClear : Obligations.ReadChannelAndReadTallyReportAndClear := by
  refine ⟨fun s h f n => ?channel, fun s h f n => ?tally⟩
  case channel =>
    have row := exec_readChannel n
    refine ⟨fun length => ?_, fun b k body => ⟨fun high => ?_, fun low high => ?_, fun c names => ?_⟩⟩
    · rw [row, handleReadChannel_of_length length]
      rfl
    · rw [row, handleReadChannel_of_no_flag body (flagOf_eq_none high)]
      rfl
    · obtain ⟨clear, flag⟩ := flagOf_of_low low
      rw [row, handleReadChannel_of_high body flag high]
      rfl
    · refine ⟨fun no => ?_, fun yes other => ?_, fun yes own => ?_⟩
      · subst no
        rw [row, handleReadChannel_of_names body flagOf_zero names]
        rfl
      · subst yes
        rw [row, handleReadChannel_of_names body flagOf_one names,
          readChannelChecked_of_not_owns (by simpa using other)]
        rfl
      · subst yes
        rw [row, handleReadChannel_of_names body flagOf_one names,
          readChannelChecked_of_owns (by simpa using own)]
        rfl
  case tally =>
    have row := exec_readTally n
    refine ⟨fun length => ?_, fun k body => ⟨fun high => ?_, fun no => ?_, fun yes => ?_⟩⟩
    · rw [row, handleReadTally_of_length length]
      rfl
    · rw [row, handleReadTally_of_no_flag body (flagOf_eq_none high)]
      rfl
    · rw [row, handleReadTally_of_flag (clear := false) body (no ▸ rfl)]
      rfl
    · rw [row, handleReadTally_of_flag (clear := true) body (yes ▸ rfl)]
      rfl

end Sys2Proof
end

section
/-! What a slot completion records of its sample, and counts to a tally (R97, R100, R101, R104, R105, R109, R117 to R119). -/

namespace Sys2Proof

open Machine

/-! ### The sample recorded and counted -/

/-- The record of channel c as a sample of it leaves it, before the sequencer has the sample (R100, R101, R104, R105). -/
def recorded (s : State) (c : ChanId) (r : Reading) : Measurement :=
  { (s.measure c).record s.config.averaging r with overdraw := s.countAfter c r }

theorem sampled_measure_self (s : State) (c : ChanId) (r : Reading) : (sampled s c r).measure c = recorded s c r := by
  unfold sampled State.tallySample
  split <;> exact Table.read_upd_self ..

/-- The sample is counted to the owner of the grant held at the arrival, and to no other host (R109, R117). -/
theorem sampled_tally (s : State) (c : ChanId) (r : Reading) (h : HostId) :
    (sampled s c r).tally h = if s.holds h c = true then (s.tally h).count (powerOf r) else s.tally h := by
  unfold sampled State.tallySample
  simp only [State.withMeasure_slot]
  split
  · next vacant => rw [holds_of_empty vacant]; rfl
  · next g slot =>
    rw [State.withTally_tally, holds_of_slot slot]
    simp only [beq_iff_eq, @eq_comm _ g.owner, State.withMeasure_tally]

/-- A power below 0 adds nothing to an accumulator (R117). -/
theorem count_eq (t : Tally) (p : Int) :
    t.count p =
      { accumulator := (t.accumulator + (max 0 p).toNat) % 4294967296
        rollovers :=
          if t.accumulator + (max 0 p).toNat < 4294967296 then t.rollovers else (t.rollovers + 1) % 256
        samples := (t.samples + 1) % 4294967296 } := by
  have positive : (max 0 p).toNat = p.toNat := by omega
  rw [positive]
  rfl

/-! ### The sequencer and the record -/

/-- A channel's quarantine restarts the rings of others alone. -/
theorem announceFault_measure {s : State} {c : ChanId} (taken : ¬ Free s c) :
    (s.announceFault c).measure c = s.measure c := (admits_announceFault s c).measure_of_taken taken

theorem not_free_of_state {s : State} {c : ChanId} {st : ChanState} (state : (s.chan c).state = st) (busy : st ≠ .idle) :
    ¬ Free s c := fun free => busy (state.symm.trans free.1)

theorem faultIdle_measure (s : State) (c : ChanId) : (s.faultIdle c).measure c = s.measure c := by
  have state : ((s.withChannel c fun _ => Channel.rest .faulted).chan c).state = .faulted := by
    rw [State.withChannel_chan, if_pos rfl]
    rfl
  exact announceFault_measure (not_free_of_state state nofun)

/-- The end of a grant that quarantines its channel leaves the channel's record: the channel is FAULTED before the scan (R31,
R88). -/
theorem endToFaulted_measure (s : State) (c : ChanId) : (s.endToFaulted c).measure c = s.measure c := by
  unfold State.endToFaulted
  split
  · rfl
  · next g _ =>
    have state : ((s.removeGrant c g .faulted).chan c).state = .faulted := by
      rw [removeGrant_chan, if_pos rfl]
      rfl
    have ended : Admits (s.removeGrant c g .faulted)
        (((((s.removeGrant c g .faulted).postEnded c g).scanQueue).announceFault c).endClosing g.owner) :=
      (((admits_postEnded ..).trans (admits_scanQueue _)).trans (admits_announceFault ..)).trans (admits_endClosing ..)
    rw [ended.measure_of_taken (not_free_of_state state nofun), removeGrant_eq]
    rfl

/-- The end of a grant that frees its channel leaves the channel's record, unless the scan grants the channel anew (R31, R102). -/
theorem endToIdle_measure (s : State) (c : ChanId) :
    (s.endToIdle c).measure c = s.measure c ∨ (s.endToIdle c).measure c = (s.measure c).restart s.config.averaging := by
  unfold State.endToIdle
  split
  · exact .inl rfl
  · next g _ =>
    have ended : Admits (s.removeGrant c g .idle)
        ((((s.removeGrant c g .idle).postEnded c g).scanQueue).endClosing g.owner) :=
      ((admits_postEnded ..).trans (admits_scanQueue _)).trans (admits_endClosing ..)
    have outcome := ended.measure c
    rw [removeGrant_eq] at outcome ⊢
    exact outcome.imp_right And.right

/-- What the sequencer may make of the record of the channel it gets a sample of: a trip sets the overdraw count to 0 (R81), and
the scan at the end of a discharge may grant the channel anew, with its ring restarted (R87, R102). -/
inductive Heard (v : Verdict) (ends : Prop) (m : Measurement) : Measurement → Prop where
  | kept : Heard v ends m m
  | tripped (trips : v ≠ .none) : Heard v ends m { m with overdraw := 0 }
  | regranted (n : Nat) (ended : ends) : Heard v ends m (m.restart n)

section Arrival
variable (s : State) (c : ChanId) (off good : Bool) (v : Verdict)

theorem sampleArrival_measure :
    Heard v ((s.chan c).state = .discharging ∧ off = true) (s.measure c) ((s.sampleArrival c off good v).measure c) := by
  have trips {k : TripCause} (trips : v ≠ .none) :
      Heard v ((s.chan c).state = .discharging ∧ off = true) (s.measure c) ((s.trip c k).measure c) := by
    rw [trip_measure, if_pos rfl]
    exact .tripped trips
  cases v with
  | overdraw => exact trips nofun
  | severe => exact trips nofun
  | none =>
    by_cases calm : Uneventful off (s.chan c)
    · rw [sampleArrival_of_uneventful good calm]
      exact .kept
    · rcases sampleArrival_of_eventful good calm with ⟨-, eq⟩ | ⟨-, eq⟩ | ⟨state, isOff, eq⟩ <;> rw [eq]
      · rw [faultIdle_measure]
        exact .kept
      · rw [endToFaulted_measure]
        exact .kept
      · rcases endToIdle_measure s c with same | again
        · rw [same]
          exact .kept
        · rw [again]
          exact .regranted _ ⟨state, isOff⟩

/-- The sequencer changes neither the clock nor a tally. -/
theorem sampleArrival_quiet :
    (s.sampleArrival c off good v).now = s.now ∧ (s.sampleArrival c off good v).tallies = s.tallies := by
  have trips (k : TripCause) : (s.trip c k).now = s.now ∧ (s.trip c k).tallies = s.tallies := by
    rw [trip_eq]
    exact ⟨rfl, rfl⟩
  cases v with
  | overdraw => exact trips .overdraw
  | severe => exact trips .severe
  | none =>
    by_cases calm : Uneventful off (s.chan c)
    · rw [sampleArrival_of_uneventful good calm]
      exact ⟨rfl, rfl⟩
    · have quiet := (acts_of_eventful good calm).quiet
      exact ⟨quiet.now, quiet.tallies⟩

end Arrival

/-! ### The slot completion -/

section Completion
variable {s : State} {sc : Scan} {c : ChanId} (scan : s.scan = some sc) (here : sc.slot = c) (r : Reading)
include scan here

theorem completeSlot_measure :
    Heard (s.verdict c (sampleOf r)) ((s.chan c).state = .discharging ∧ outputOff (sampleOf r) = true)
      (recorded s c (sampleOf r)) ((s.completeSlot c r).measure c) := by
  have heard := sampleArrival_measure (sampled (s.advanceScan sc) c (sampleOf r)) c (outputOff (sampleOf r))
    (outputGood (s.settings c).pgInput (sampleOf r)) (s.verdict c (sampleOf r))
  rw [sampled_chan, sampled_measure_self] at heard
  rw [completeSlot_of_verdict scan here rfl, State.countRound_eq]
  exact heard

theorem completeSlot_now_tally :
    (s.completeSlot c r).now = max s.now sc.ends ∧ ∀ h, (s.completeSlot c r).tally h =
      if s.holds h c = true then (s.tally h).count (powerOf (sampleOf r)) else s.tally h := by
  obtain ⟨now, tallies⟩ := sampleArrival_quiet (sampled (s.advanceScan sc) c (sampleOf r)) c (outputOff (sampleOf r))
    (outputGood (s.settings c).pgInput (sampleOf r)) (s.verdict c (sampleOf r))
  rw [completeSlot_of_verdict scan here rfl, State.countRound_eq]
  refine ⟨now.trans ?_, fun h => (congrArg (fun table => table.read h) tallies).trans ?_⟩
  · rw [sampled_eq]
    rfl
  · exact sampled_tally (s.advanceScan sc) c (sampleOf r) h

end Completion

/-! ### The overdraw count -/

theorem countAfter_of_above {s : State} {c : ChanId} {x : Reading} (state : (s.chan c).state = .on)
    (above : (s.effectiveLimit c : Int) < powerOf x) (room : (s.measure c).overdraw + 8 < 128) :
    s.countAfter c x = (s.measure c).overdraw + 8 := by
  rw [State.countAfter, if_pos state, overdrawAfter, if_pos above]
  exact Nat.min_eq_left room.le

theorem countAfter_of_within {s : State} {c : ChanId} {x : Reading} (state : (s.chan c).state = .on)
    (within : powerOf x ≤ (s.effectiveLimit c : Int)) : s.countAfter c x = (s.measure c).overdraw - 1 := by
  rw [State.countAfter, if_pos state, overdrawAfter, if_neg (Int.not_lt.2 within)]

/-- No trip comes of a sample in ON that is not severe and leaves the count below 128 (R105, R109). -/
theorem verdict_of_count {s : State} {c : ChanId} {x : Reading} (state : (s.chan c).state = .on)
    (mild : severe (s.settings c).ceiling x = false) (short : s.countAfter c x < Config.overdrawFull) :
    s.verdict c x = .none := by
  simp only [State.verdict, state, mild, Bool.false_eq_true, if_false, if_neg (Nat.ne_of_lt short)]

/-- Outside ON no trip comes of a sample but a severe one in RAMPING (R109). -/
theorem verdict_of_not_on {s : State} {c : ChanId} {x : Reading} (state : (s.chan c).state ≠ .on)
    (mild : (s.chan c).state = .ramping → severe (s.settings c).ceiling x = false) : s.verdict c x = .none := by
  unfold State.verdict
  split
  · next on => exact absurd on state
  · next ramping => rw [mild ramping]; rfl
  · rfl

theorem severe_eq_false {ceiling : Nat} {x : Reading} (power : ¬ 2 * (ceiling : Int) < powerOf x)
    (current : x.current.natAbs ≤ 30000) : severe ceiling x = false :=
  Bool.eq_false_iff.2 fun hit => (severe_iff.1 hit).elim power (Nat.not_lt.2 current)

theorem Heard.overdraw {v : Verdict} {ends : Prop} {m m' : Measurement} (heard : Heard v ends m m') (calm : v = .none) :
    m'.overdraw = m.overdraw := by
  cases heard with
  | kept => rfl
  | tripped trips => exact absurd calm trips
  | regranted => rfl

theorem Heard.readings {v : Verdict} {ends : Prop} {m m' : Measurement} (heard : Heard v ends m m') :
    m'.current = m.current ∧ m'.output = m.output ∧ m'.bus = m.bus ∧ m'.pg = m.pg ∧ m'.power = m.power := by
  cases heard <;> exact ⟨rfl, rfl, rfl, rfl, rfl⟩

theorem Heard.ring {v : Verdict} {ends : Prop} {m m' : Measurement} (heard : Heard v ends m m') (stays : ¬ ends) :
    m'.ring = m.ring ∧ m'.average = m.average ∧ m'.peak = m.peak := by
  cases heard with
  | kept | tripped => exact ⟨rfl, rfl, rfl⟩
  | regranted _ ended => exact absurd ended stays

/-- Settles O37: the record of the sample as the sequencer leaves it, and the tally as the sample leaves it. -/
theorem sampleIsRecordedAndTallied : Obligations.SampleIsRecordedAndTallied := by
  intro s sc c r x scan here sample
  subst sample
  have heard := completeSlot_measure scan here r
  obtain ⟨now, tally⟩ := completeSlot_now_tally scan here r
  obtain ⟨slot, -, -⟩ := completeSlot_countsRound scan here r
  obtain ⟨current, output, bus, pg, power⟩ := heard.readings
  refine ⟨_, rfl, now, slot, current, output, bus, pg, power, fun stays => ?ring, fun state below power current => ?on,
    fun state mild => ?off, fun h => ?tally⟩
  case ring => exact heard.ring fun ends => stays ⟨ends.1, of_decide_eq_true ends.2⟩
  case on =>
    have mild := severe_eq_false power current
    refine ⟨fun above room => ?_, fun within => ?_⟩
    · have count := countAfter_of_above state above room
      exact (heard.overdraw (verdict_of_count state mild (count ▸ room))).trans count
    · have count := countAfter_of_within state within
      exact (heard.overdraw (verdict_of_count state mild (count ▸ (Nat.sub_le ..).trans_lt below))).trans count
  case off =>
    rw [heard.overdraw (verdict_of_not_on state fun ramping => severe_eq_false (mild ramping).1 (mild ramping).2)]
    exact if_neg state
  case tally => rw [tally, count_eq]

end Sys2Proof
end

section
/-! ATTACH (R120, R128 to R130): what it does in each state of the session, and the session it opens. -/

namespace Sys2Proof

open Machine

theorem exec_attach {s : State} {h : HostId} {f : Frame} (n : Next .attach s h f) :
    exec .attach s = .next (handleAttach h f (taken s h)) := congrArg _ (taking_always n rfl handleAttach)

section States
variable {s : State} {h : HostId} {f : Frame}

theorem handleAttach_of_opens (state : (s.session h).state = .detached) (body : f.body = []) :
    handleAttach h f s =
      (s.openSession h).respond h f
        (.attach (nextEpoch (s.session h).epoch) s.config.leasePeriod (s.session h).lastClose) := by
  simp only [handleAttach, state, body, if_true]

theorem handleAttach_of_body (state : (s.session h).state = .detached) (body : f.body ≠ []) :
    handleAttach h f s = s.refuse h f .badValue := by
  simp only [handleAttach, state, body, if_false]

theorem handleAttach_of_attached (state : (s.session h).state = .attached) :
    handleAttach h f s = s.refuse h f .badState := by
  simp only [handleAttach, state]

theorem handleAttach_of_closing (state : (s.session h).state = .closing) :
    handleAttach h f s = s.refuse h f .busy := by
  simp only [handleAttach, state]

/-- The taking of a detached host's frame renews no lease (R134). -/
theorem taken_sessions_of_detached (state : (s.session h).state = .detached) : (taken s h).sessions = s.sessions :=
  if_neg (by simp [State.attached, state])

end States

/-- Settles O40: the handling of each state of the session, on the state the taking leaves; no lease runs in DETACHED, so the
session opened is the stored one changed once. -/
theorem attachOpensASession : Obligations.AttachOpensASession := by
  intro s h f n
  have row := exec_attach n
  have standing := taken_state s h h
  refine ⟨fun detached body => ?opened, fun detached body => ?badValue, fun attached => ?badState, fun closing => ?busy⟩
  case opened =>
    rw [row, handleAttach_of_opens (standing.trans detached) body, taken_epoch, taken_lastClose, State.openSession,
      State.withSession, taken_sessions_of_detached detached]
    rfl
  case badValue => rw [row, handleAttach_of_body (standing.trans detached) body, refuse_taken]
  case badState => rw [row, handleAttach_of_attached (standing.trans attached), refuse_taken]
  case busy => rw [row, handleAttach_of_closing (standing.trans closing), refuse_taken]

end Sys2Proof
end

section
/-! What dispatch answers before any handling (R127, R134, R138, R186): a host that is not attached, and an unknown kind byte. -/

namespace Sys2Proof

open Machine

section Dispatch
variable {s : State} {h : HostId} {f : Frame}

/-- QUERY_PART and ATTACH alone are handled in every session state (R127). -/
theorem servedAlways_eq_false {k : RequestKind} (part : k ≠ .queryPart) (attach : k ≠ .attach) :
    k.servedAlways = false := by
  cases k
  case queryPart => exact absurd rfl part
  case attach => exact absurd rfl attach
  all_goals rfl

/-- Whatever the row's handling is, a host that is not attached does not reach it. -/
theorem exec_requestRow_unattached {k : RequestKind} (straps : BitVec 2) (n : Next k s h f)
    (other : k.servedAlways = false) (unattached : s.attached h = false) :
    exec (requestRow straps k) s = .next (refusedWith s h f .notAttached) := by
  cases k
  case queryPart | attach => cases other
  all_goals exact congrArg _ (taking_unattached n other unattached _)

/-- The refusal is made on the state the taking leaves, in which an attached host's lease is renewed (R134). -/
theorem takingUnknown_at_hand (next : s.nextFrame = some (h, f)) (unknown : kindOf f.kind = none) :
    s.takingUnknown = refusedWith s h f .badRequest := by
  simp only [State.takingUnknown, next, unknown, if_true, takeFrame_renewLease, refuse_taken]

end Dispatch

/-- Settles O53: the refusal at dispatch, row by row, and the row of the unknown kinds. -/
theorem dispatchAnswersWithoutHandling : Obligations.DispatchAnswersWithoutHandling :=
  ⟨fun _ straps _ _ _ n part attach unattached =>
    exec_requestRow_unattached straps n (servedAlways_eq_false part attach) unattached,
   fun _ _ _ next unknown => congrArg _ (takingUnknown_at_hand next unknown)⟩

end Sys2Proof
end

section
/-! READ_CONFIG and READ_PROPOSAL (R145, R147): the bodies read, and what is reported. -/

namespace Sys2Proof

open Machine

theorem exec_readConfig {s : State} {h : HostId} {f : Frame} (n : Served .readConfig s h f) :
    exec .readConfig s = .next (handleReadConfig h f (taken s h)) := congrArg _ (taking_served n handleReadConfig)

theorem exec_readProposal {s : State} {h : HostId} {f : Frame} (n : Served .readProposal s h f) :
    exec .readProposal s = .next ((taken s h).bodiless h f fun t =>
      t.respond h f (.readProposal (t.proposal.map t.proposalReport))) := congrArg _ (taking_served n handleReadProposal)

section Bodies
variable {s : State} {h : HostId} {f : Frame} {part b : Byte} {c : ChanId}

theorem handleReadConfig_of_length (length : f.body.length ≠ 2) : handleReadConfig h f s = s.refuse h f .badValue := by
  unfold handleReadConfig
  split
  · next body => simp [body] at length
  · rfl

theorem handleReadConfig_of_no_section (body : f.body = [part, b]) (no : 1 < part.toNat) :
    handleReadConfig h f s = s.refuse h f .badValue := by
  have global : part ≠ 0#8 := by bv_omega
  have channel : part ≠ 1#8 := by bv_omega
  simp only [handleReadConfig, body, if_neg global, if_neg channel]

theorem handleReadConfig_of_global (body : f.body = [0#8, b]) :
    handleReadConfig h f s = s.respond h f (.readGlobal s.config.normal s.config.derated s.config.caps
      s.config.leasePeriod s.config.blockingAge s.config.averaging) := by
  simp only [handleReadConfig, body, if_true]

theorem handleReadConfig_of_high (body : f.body = [1#8, b]) (high : 8 ≤ b.toNat) :
    handleReadConfig h f s = s.refuse h f .badChannel := by
  simp only [handleReadConfig, body, channelOf_of_high high]
  rfl

theorem handleReadConfig_of_names (body : f.body = [1#8, b]) (names : b.toNat = c.val) :
    handleReadConfig h f s = s.respond h f (.readChannelConfig c (s.settings c)) := by
  simp only [handleReadConfig, body, channelOf_of_names names]
  rfl

end Bodies

/-- Settles O44: READ_CONFIG by its section, and READ_PROPOSAL as a request with no body. -/
theorem configurationRequestsReport : Obligations.ConfigurationRequestsReport := by
  refine ⟨fun s h f n => ?config, fun s h f n => ?proposal⟩
  case config =>
    have row := exec_readConfig n
    refine ⟨fun length => ?length, fun part b body => ⟨fun no => ?other, fun global => ?global, fun one high => ?high,
      fun c one names => ?names⟩⟩
    case length => rw [row, handleReadConfig_of_length length, refuse_taken]
    case other => rw [row, handleReadConfig_of_no_section body no, refuse_taken]
    case global =>
      subst global
      rw [row, handleReadConfig_of_global body, respond_taken, taken_config]
    case high =>
      subst one
      rw [row, handleReadConfig_of_high body high, refuse_taken]
    case names =>
      subst one
      rw [row, handleReadConfig_of_names body names, respond_taken, taken_settings]
  case proposal =>
    obtain ⟨empty, other⟩ := exec_bodiless (exec_readProposal n) rfl
    refine ⟨other, fun body none => ?none, fun p body is => ?some⟩
    case none =>
      rw [empty body, taken_proposal, none, Option.map_none]
    case some =>
      rw [empty body, taken_proposal, is, Option.map_some]
      rfl

end Sys2Proof
end

section
/-! The body of PROPOSE (R146, R148, R149, R189): the arguments of each kind, and their layout read back. -/

namespace Sys2Proof

open Machine

/-! ### The arguments of each kind -/

section Kinds
variable (a b c d e l p : Byte)

theorem readChange_setBudget : readChange [0#8, a, b, c, d] = some (.setBudget (word2 a b) (word2 c d)) := rfl

theorem readChange_setCeiling : readChange [1#8, c, a, b] = some (.setCeiling c.toNat (word2 a b)) := rfl

theorem readChange_setChannelTiming :
    readChange [2#8, c, a, b, d, e, l, p] = some (.setChannelTiming c.toNat (word2 a b) (word2 d e) l.toNat p.toNat) := rfl

theorem readChange_setHostCap : readChange [3#8, c, a, b] = some (.setHostCap c.toNat (word2 a b)) := rfl

theorem readChange_setLease : readChange [4#8, a, b] = some (.setLease (word2 a b)) := rfl

theorem readChange_setQueueAge : readChange [5#8, a, b] = some (.setQueueAge (word2 a b)) := rfl

theorem readChange_setAveraging : readChange [6#8, a] = some (.setAveraging a.toNat) := rfl

theorem readChange_clearChannelFault : readChange [7#8, c] = some (.clearChannelFault c.toNat) := rfl

theorem readChange_forceRelease : readChange [8#8, c, a, b] = some (.forceRelease c.toNat (word2 a b)) := rfl

end Kinds

/-! ### The layout read back -/

/-- The arguments of a change as a PROPOSE body carries them (R146, R189). -/
def Change.raw : Change → RawChange
  | .setBudget n d => .setBudget n d
  | .setCeiling c v => .setCeiling c.val v
  | .setChannelTiming c r o l p => .setChannelTiming c.val r o l p.toNat
  | .setHostCap h v => .setHostCap h.val v
  | .setLease p => .setLease p
  | .setQueueAge a => .setQueueAge a
  | .setAveraging n => .setAveraging n
  | .clearChannelFault c => .clearChannelFault c.val
  | .forceRelease c n => .forceRelease c.val n
  | .resetPart => .resetPart

theorem blockingAgeOk_iff {a : Nat} : blockingAgeOk a = true ↔ a = 0 ∨ 100 ≤ a ∧ a ≤ 60000 := by
  simp [blockingAgeOk]

/-- The fields of a PROPOSE body hold every number R149 admits. -/
theorem readChange_bytes {ch : Change} (range : Change.InRange ch) (number : ∀ c n, ch = .forceRelease c n → n ≤ 65535) :
    readChange ch.bytes = some (Change.raw ch) := by
  have chan (c : ChanId) : (BitVec.ofNat 8 c.val).toNat = c.val := toNat_byte _ (by omega)
  cases ch
  case setBudget n d =>
    obtain ⟨normal, derated⟩ : n ≤ 65000 ∧ d ≤ n := range
    exact (readChange_setBudget ..).trans (by rw [word2_byte2 n (by omega), word2_byte2 d (by omega), Change.raw])
  case setCeiling c v =>
    obtain ⟨-, most⟩ : 1 ≤ v ∧ v ≤ 40000 := range
    exact (readChange_setCeiling ..).trans (by rw [chan, word2_byte2 v (by omega), Change.raw])
  case setChannelTiming c r o l p =>
    obtain ⟨⟨-, ramp⟩, ⟨-, holdoff⟩, retry⟩ := range
    have pin := p.toNat_le
    exact (readChange_setChannelTiming ..).trans (by
      rw [chan, word2_byte2 r (by omega), word2_byte2 o (by omega), toNat_byte l (by omega),
        toNat_byte p.toNat (by omega), Change.raw])
  case setHostCap h v =>
    have most : v ≤ 65000 := range
    exact (readChange_setHostCap ..).trans (by rw [toNat_byte h.val (by omega), word2_byte2 v (by omega), Change.raw])
  case setLease p =>
    obtain ⟨-, most⟩ : 500 ≤ p ∧ p ≤ 60000 := range
    exact (readChange_setLease ..).trans (by rw [word2_byte2 p (by omega), Change.raw])
  case setQueueAge a =>
    have most := blockingAgeOk_iff.1 range
    exact (readChange_setQueueAge ..).trans (by rw [word2_byte2 a (by omega), Change.raw])
  case setAveraging n =>
    have most : n ≤ 7 := range
    exact (readChange_setAveraging ..).trans (by rw [toNat_byte n (by omega), Change.raw])
  case clearChannelFault c => exact (readChange_clearChannelFault ..).trans (by rw [chan, Change.raw])
  case forceRelease c n =>
    exact (readChange_forceRelease ..).trans (by rw [chan, word2_byte2 n (number c n rfl), Change.raw])
  case resetPart => rfl

/-! ### Validation -/

section Valid
variable {s : State} {h : HostId} {c : ChanId} {n : Nat} {g : Grant}

/-- A FORCE_RELEASE of another host's grant, named by its number, that is not DISCHARGING passes (R149). -/
theorem forceCheck_of_held (slot : s.slot c = some g) (number : g.number = n) (positive : n ≠ 0)
    (state : (s.chan c).state ≠ .discharging) (other : g.owner ≠ h) : s.forceCheck h c n = .ok (.forceRelease c n) := by
  simp only [State.forceCheck, slot, if_neg positive, number, ne_eq, not_true_eq_false, state, or_self, if_false, other]

/-- A change with its arguments in range passes, where the channel it clears is FAULTED and the grant it forces off is held by
another host and not DISCHARGING (R149). -/
theorem validate_raw {ch : Change} (range : Change.InRange ch)
    (faulted : ∀ c, ch = .clearChannelFault c → (s.chan c).state = .faulted)
    (held : ∀ c n, ch = .forceRelease c n → s.forceCheck h c n = .ok ch) :
    s.validate h (Change.raw ch) = .ok ch := by
  cases ch <;> simp only [Change.raw, State.validate, channelOf_val]
  case setBudget n d =>
    obtain ⟨normal, derated⟩ : n ≤ 65000 ∧ d ≤ n := range
    exact if_pos ⟨normal, derated.trans normal, derated⟩
  case setCeiling | setLease | setQueueAge | setAveraging => exact if_pos range
  case setChannelTiming c r o l p =>
    obtain ⟨⟨ramp, ramp'⟩, ⟨holdoff, holdoff'⟩, retry⟩ := range
    rw [if_pos ⟨ramp, ramp', holdoff, holdoff', retry, p.toNat_le⟩]
    cases p <;> rfl
  case setHostCap k v => exact (dif_pos k.isLt).trans (if_pos range)
  case clearChannelFault c => exact if_pos (faulted c rfl)
  case forceRelease c n => exact held c n rfl

end Valid

/-- Settles O46: the layout is read back, and what is read back passes. -/
theorem proposalBodyReadsBack : Obligations.ProposalBodyReadsBack := by
  intro s h ch range faulted held
  have fits (c : ChanId) (n : Nat) (e : ch = .forceRelease c n) : n ≤ 65535 := by
    obtain ⟨-, most, -⟩ := held c n e
    exact most
  refine ⟨Change.raw ch, readChange_bytes range fits, validate_raw range faulted fun c n e => ?_⟩
  obtain ⟨positive, -, state, g, slot, number, other⟩ := held c n e
  rw [e]
  exact forceCheck_of_held slot number (Nat.one_le_iff_ne_zero.1 positive) state other

end Sys2Proof
end

section
/-! PROPOSE (R148 to R150, R157): the refusals in their order, over the bytes of the body, and the proposal that opens. -/

namespace Sys2Proof

open Machine

/-! ### Kinds and lengths -/

/-- The bytes of arguments that each kind takes (R146, R148). -/
def argumentLength (kind : Nat) : Nat := [4, 3, 7, 3, 2, 2, 1, 1, 3, 0].getD kind 0

/-- No kind looks past the eighth byte of its arguments, so the kinds and those bytes are gone through in turn. -/
theorem isSome_readChange_cons (kind : Byte) (args : List Byte) :
    (readChange (kind :: args)).isSome = (decide (kind.toNat < 10) && args.length == argumentLength kind.toNat) := by
  unfold readChange
  dsimp only
  generalize kind.toNat = k
  rcases k with _ | _ | _ | _ | _ | _ | _ | _ | _ | _ | k
  case succ.succ.succ.succ.succ.succ.succ.succ.succ.succ => rfl
  all_goals
    rcases args with _ | ⟨_, _ | ⟨_, _ | ⟨_, _ | ⟨_, _ | ⟨_, _ | ⟨_, _ | ⟨_, _ | ⟨_, _⟩⟩⟩⟩⟩⟩⟩⟩ <;> rfl

theorem readChange_cons_eq_none {kind : Byte} {args : List Byte}
    (bad : 10 ≤ kind.toNat ∨ args.length ≠ argumentLength kind.toNat) : readChange (kind :: args) = none := by
  rw [← Option.not_isSome_iff_eq_none, isSome_readChange_cons, Bool.and_eq_true, decide_eq_true_iff, beq_iff_eq,
    not_and_or, Nat.not_lt]
  exact bad

theorem exists_readChange_cons {kind : Byte} {args : List Byte} (known : kind.toNat ≤ 9)
    (length : args.length = argumentLength kind.toNat) : ∃ raw, readChange (kind :: args) = some raw := by
  rw [← Option.isSome_iff_exists, isSome_readChange_cons, length]
  simpa using Nat.lt_succ_of_le known

/-! ### The checks of R149 -/

section Checks
variable {s : State} {h : HostId} {b : Byte} {c : ChanId}

theorem validate_setBudget_of_out {n d : Nat} (out : 65000 < n ∨ 65000 < d ∨ n < d) :
    s.validate h (.setBudget n d) = .error .badValue := if_neg (by simp only [Config.powerMax]; omega)

theorem validate_setCeiling_of_high {v : Nat} (high : 8 ≤ b.toNat) :
    s.validate h (.setCeiling b.toNat v) = .error .badChannel := by
  simp only [State.validate, channelOf_of_high high]

theorem validate_setCeiling_of_out {v : Nat} (low : b.toNat < 8) (out : v = 0 ∨ 40000 < v) :
    s.validate h (.setCeiling b.toNat v) = .error .badValue := by
  simp only [State.validate, channelOf, dif_pos low]
  exact if_neg (by simp only [Config.amountMax]; omega)

theorem validate_setChannelTiming_of_high {r o l p : Nat} (high : 8 ≤ b.toNat) :
    s.validate h (.setChannelTiming b.toNat r o l p) = .error .badChannel := by
  simp only [State.validate, channelOf_of_high high]

theorem validate_setChannelTiming_of_out {r o l p : Nat} (low : b.toNat < 8)
    (out : r < 10 ∨ 1000 < r ∨ o < 100 ∨ 30000 < o ∨ 7 < l ∨ 1 < p) :
    s.validate h (.setChannelTiming b.toNat r o l p) = .error .badValue := by
  simp only [State.validate, channelOf, dif_pos low]
  exact if_neg (by omega)

theorem validate_setHostCap_of_out {k v : Nat} (out : 4 ≤ k ∨ 65000 < v) :
    s.validate h (.setHostCap k v) = .error .badValue := by
  rw [State.validate]
  split
  · exact if_neg (by simp only [Config.powerMax]; omega)
  · rfl

theorem validate_setLease_of_out {p : Nat} (out : p < 500 ∨ 60000 < p) :
    s.validate h (.setLease p) = .error .badValue := if_neg (by omega)

theorem validate_setQueueAge_of_out {a : Nat} (some : a ≠ 0) (out : a < 100 ∨ 60000 < a) :
    s.validate h (.setQueueAge a) = .error .badValue := if_neg (by rw [blockingAgeOk_iff]; omega)

theorem validate_setAveraging_of_out {n : Nat} (out : 7 < n) :
    s.validate h (.setAveraging n) = .error .badValue := if_neg (Nat.not_le.2 out)

theorem validate_clearChannelFault_of_high (high : 8 ≤ b.toNat) :
    s.validate h (.clearChannelFault b.toNat) = .error .badChannel := by
  simp only [State.validate, channelOf_of_high high]

theorem validate_clearChannelFault_of_state (names : b.toNat = c.val) (state : (s.chan c).state ≠ .faulted) :
    s.validate h (.clearChannelFault b.toNat) = .error .badState := by
  simp only [State.validate, channelOf_of_names names, if_neg state]

theorem validate_forceRelease_of_high {n : Nat} (high : 8 ≤ b.toNat) :
    s.validate h (.forceRelease b.toNat n) = .error .badChannel := by
  simp only [State.validate, channelOf_of_high high]

theorem validate_forceRelease_of_names {n : Nat} (names : b.toNat = c.val) :
    s.validate h (.forceRelease b.toNat n) = s.forceCheck h c n := by
  simp only [State.validate, channelOf_of_names names]

variable {n : Nat}

theorem forceCheck_of_zero (zero : n = 0) : s.forceCheck h c n = .error .badValue := if_pos zero

theorem forceCheck_of_other (positive : n ≠ 0) (other : ∀ g, s.slot c = some g → g.number ≠ n) :
    s.forceCheck h c n = .error .badState := by
  rw [State.forceCheck, if_neg positive]
  split
  · rfl
  · next g slot => exact if_pos (.inl (other g slot))

variable {g : Grant} (positive : n ≠ 0) (slot : s.slot c = some g)
include positive slot

theorem forceCheck_of_discharging (state : (s.chan c).state = .discharging) : s.forceCheck h c n = .error .badState := by
  simp only [State.forceCheck, if_neg positive, slot, state, or_true, if_true]

theorem forceCheck_of_own (number : g.number = n) (state : (s.chan c).state ≠ .discharging) (own : g.owner = h) :
    s.forceCheck h c n = .error .notOwner := by
  simp only [State.forceCheck, if_neg positive, slot, number, ne_eq, not_true_eq_false, state, or_self, if_false, own, if_true]

end Checks

/-! ### The order of the checks -/

section Order
variable {s : State} {h : HostId} {f : Frame} {raw : RawChange} {ch : Change} {r : Reason}

theorem validate_taken (s : State) (h k : HostId) (raw : RawChange) :
    (taken s h).validate k raw = s.validate k raw := by cases raw <;> rfl

theorem exec_propose (n : Served .propose s h f) (straps : BitVec 2) :
    exec (.propose straps) s = .next (handlePropose straps h f (taken s h)) :=
  congrArg _ (taking_served n (handlePropose straps))

variable (n : Served .propose s h f) (straps : BitVec 2)
include n

theorem exec_propose_of_unread (unread : readChange f.body = none) :
    exec (.propose straps) s = .next (refusedWith s h f .badValue) := by
  rw [exec_propose n, handlePropose, unread, refuse_taken]

variable (read : readChange f.body = some raw)
include read

theorem exec_propose_of_busy (busy : s.proposal ≠ none) :
    exec (.propose straps) s = .next (refusedWith s h f .proposalBusy) := by
  rw [exec_propose n, handlePropose, read]
  exact congrArg _ (if_pos (Option.isSome_iff_ne_none.2 busy))

variable (idle : s.proposal = none)
include idle

theorem exec_propose_of_error (bad : s.validate h raw = .error r) :
    exec (.propose straps) s = .next (refusedWith s h f r) := by
  simp only [exec_propose n, handlePropose, read, taken_proposal, idle, validate_taken, bad]
  rfl

theorem exec_propose_of_ok (valid : s.validate h raw = .ok ch) :
    exec (.propose straps) s = .next ((taken s h).openProposal straps h f ch) := by
  simp only [exec_propose n, handlePropose, read, taken_proposal, idle, validate_taken, valid]
  rfl

end Order

/-! ### The proposal that opens -/

section Opens
variable {s : State} {h : HostId} {ch : Change}

/-- The electorate is the attached hosts, without the owner of the grant a FORCE_RELEASE names (R150). -/
theorem electorateFor_read (s : State) (ch : Change) (k : HostId) :
    (s.electorateFor ch).read k = true ↔ s.attached k = true ∧ ∀ c n, ch = .forceRelease c n → s.holds k c = false := by
  refine ⟨fun elector => ⟨attached_of_elector elector, fun c n forced => ?_⟩,
    fun ⟨attached, apart⟩ => elector_of_attached attached apart⟩
  subst forced
  have both : s.attached k = true ∧ s.holds k c = false := by
    rcases host_cases k with rfl | rfl | rfl | rfl <;>
      simpa [State.electorateFor, allHosts, Table.read_upd] using elector
  exact both.2

theorem electorateFor_taken_read (s : State) (h k : HostId) (ch : Change) :
    ((taken s h).electorateFor ch).read k = true ↔
      s.attached k = true ∧ ∀ c n, ch = .forceRelease c n → s.holds k c = false := by
  simpa using electorateFor_read (taken s h) ch k

/-- PROPOSAL_OPENED goes to the electors other than the proposer, and changes nothing else (R150, R157). -/
theorem postOpened_eq (s : State) (p : Proposal) : s.postOpened p = { s with outboxes := (s.postOpened p).outboxes } := by
  unfold State.postOpened
  generalize allHosts = hosts
  induction hosts generalizing s with
  | nil => rfl
  | cons k rest ih =>
    rw [List.foldl_cons, ih]
    split
    · rw [State.post_eq]
    · rfl

/-- A notice posted to some of the hosts, each attached, arrives once at each of them. -/
theorem foldl_post_outbox {who : HostId → Bool} {hosts : List HostId} (once : hosts.Nodup) (n : Notice) (k : HostId) :
    ∀ s : State, (∀ j, who j = true → s.attached j = true) →
      (hosts.foldl (fun t j => if who j then t.post j n else t) s).outbox k =
        if k ∈ hosts ∧ who k = true then arrive n (s.outbox k) else s.outbox k := by
  induction hosts with
  | nil => exact fun s _ => (if_neg (by simp)).symm
  | cons j rest ih =>
    obtain ⟨fresh, once⟩ := List.nodup_cons.1 once
    intro s attached
    rw [List.foldl_cons]
    cases told : who j with
    | false =>
      have other : k ∈ j :: rest ∧ who k = true ↔ k ∈ rest ∧ who k = true := by
        by_cases e : k = j <;> simp [e, told]
      simp only [Bool.false_eq_true, if_false, ih once s attached, other]
    | true =>
      rw [if_pos rfl, ih once _ fun i w => (post_attached ..).trans (attached i w), post_outbox]
      by_cases e : k = j
      · subst e
        simp [fresh, told, attached k told]
      · simp [e]

/-- Each elector, being attached, is told of the opening, but for the proposer (R150, R157). -/
theorem postOpened_outbox {s : State} {p : Proposal} (electors : ∀ k, p.electorate.read k = true → s.attached k = true)
    (k : HostId) :
    (s.postOpened p).outbox k =
      if p.electorate.read k = true ∧ k ≠ p.proposer then arrive (.proposalOpened p.id p.proposer p.change) (s.outbox k)
      else s.outbox k := by
  have all : k ∈ allHosts := by revert k; decide
  have told : (s.postOpened p).outbox k = _ :=
    foldl_post_outbox (who := fun j => p.electorate.read j && j != p.proposer) (hosts := allHosts) (by decide)
      (.proposalOpened p.id p.proposer p.change) k s fun j who => electors j (Bool.and_eq_true_iff.1 who).1
  simpa only [all, true_and, Bool.and_eq_true, bne_iff_ne] using told

/-- A change is adopted at once when the proposer's consent is the whole electorate's (R150). -/
theorem openProposal_of_complete {f : Frame} (straps : BitVec 2) {p : Proposal} (is : p = s.proposalFor h ch)
    (complete : p.consents = p.electorate) :
    s.openProposal straps h f ch =
      (s.advanceProposal.adoptProposal straps p).respond h f (.propose p.id .adopted p.electorate) := by
  subst is
  exact if_pos complete

/-- Otherwise its proposal opens, and the other electors are told (R150, R157). -/
theorem openProposal_of_lacking {f : Frame} (straps : BitVec 2) {p : Proposal} (is : p = s.proposalFor h ch)
    (lacking : p.consents ≠ p.electorate) :
    s.openProposal straps h f ch =
      ((s.advanceProposal.withProposal (some p)).postOpened p).respond h f (.propose p.id .opened p.electorate) := by
  subst is
  exact if_neg lacking

end Opens

/-- Settles O45: the refusals in their order, those of R149 by the kind's arguments, and the proposal of a change that passes. -/
theorem proposeOpensOrAdopts : Obligations.ProposeOpensOrAdopts := by
  intro s h f straps n Refuses
  refine ⟨exec_propose_of_unread n straps, fun none => ?empty, fun kind args body bad => ?unread,
    fun kind args body known length busy => ?busy, fun idle => ?arguments, fun raw read =>
      ⟨exec_propose_of_busy n straps read, fun r => exec_propose_of_error n straps read, fun ch idle valid => ?opens⟩⟩
  case empty => exact exec_propose_of_unread n straps (none ▸ rfl)
  case unread => exact exec_propose_of_unread n straps (body ▸ readChange_cons_eq_none bad)
  case busy =>
    obtain ⟨raw, read⟩ := exists_readChange_cons known length
    exact exec_propose_of_busy n straps (body ▸ read) busy
  case arguments =>
    have refuses {bytes : List Byte} {raw : RawChange} {r : Reason} (body : f.body = bytes)
        (read : readChange bytes = some raw) (bad : s.validate h raw = .error r) : Refuses r :=
      exec_propose_of_error n straps (body ▸ read) idle bad
    refine ⟨?budget, ?ceiling, ?timing, ?cap, ?lease, ?age, ?averaging, ?fault, ?force⟩
    case budget => exact fun _ _ _ _ body out => refuses body (readChange_setBudget ..) (validate_setBudget_of_out out)
    case ceiling =>
      exact fun _ _ _ body =>
        ⟨fun high => refuses body (readChange_setCeiling ..) (validate_setCeiling_of_high high),
         fun low out => refuses body (readChange_setCeiling ..) (validate_setCeiling_of_out low out)⟩
    case timing =>
      exact fun _ _ _ _ _ _ _ body =>
        ⟨fun high => refuses body (readChange_setChannelTiming ..) (validate_setChannelTiming_of_high high),
         fun low out => refuses body (readChange_setChannelTiming ..) (validate_setChannelTiming_of_out low out)⟩
    case cap => exact fun _ _ _ body out => refuses body (readChange_setHostCap ..) (validate_setHostCap_of_out out)
    case lease => exact fun _ _ body out => refuses body (readChange_setLease ..) (validate_setLease_of_out out)
    case age => exact fun _ _ body some out => refuses body (readChange_setQueueAge ..) (validate_setQueueAge_of_out some out)
    case averaging => exact fun _ body out => refuses body (readChange_setAveraging ..) (validate_setAveraging_of_out out)
    case fault =>
      exact fun _ body =>
        ⟨fun high => refuses body (readChange_clearChannelFault ..) (validate_clearChannelFault_of_high high),
         fun _ names state =>
           refuses body (readChange_clearChannelFault ..) (validate_clearChannelFault_of_state names state)⟩
    case force =>
      intro b hi lo body
      have read := readChange_forceRelease hi lo b
      refine ⟨fun high => refuses body read (validate_forceRelease_of_high high), fun c names => ?_⟩
      have check := validate_forceRelease_of_names (s := s) (h := h) (n := word2 hi lo) names
      refine ⟨fun zero => refuses body read (check.trans (forceCheck_of_zero zero)), fun positive =>
        ⟨fun other => refuses body read (check.trans (forceCheck_of_other positive other)), fun g slot number =>
          ⟨fun state => refuses body read (check.trans (forceCheck_of_discharging positive slot state)), fun state own =>
            refuses body read (check.trans (forceCheck_of_own positive slot number state own))⟩⟩⟩
  case opens =>
    have row := exec_propose_of_ok n straps read idle valid
    have electorate := fun k => electorateFor_taken_read s h k ch
    refine ⟨(taken s h).proposalFor h ch, (taken s h).advanceProposal, rfl, rfl, rfl, rfl, only_read h, electorate, rfl,
      fun complete => ?adopted, fun lacking => ?opened⟩
    case adopted => rw [row, openProposal_of_complete straps rfl complete]
    case opened =>
      have told := postOpened_outbox (p := (taken s h).proposalFor h ch)
        (s := (taken s h).advanceProposal.withProposal (some ((taken s h).proposalFor h ch)))
        fun k elector => (taken_attached s h k).trans ((electorate k).1 elector).1
      exact ⟨_, by rw [row, openProposal_of_lacking straps rfl lacking], postOpened_eq .., told⟩

end Sys2Proof
end

section
/-! CONSENT, DISSENT and WITHDRAW, which name the open proposal by its id (R151 to R153), and the window's expiry (R154). -/

namespace Sys2Proof

open Machine

/-! ### The id of the open proposal -/

section Open
variable {s : State} {h : HostId} {f : Frame} {act : Proposal → State → State} {id : Byte} {p : Proposal}

theorem withOpen_of_length (length : f.body.length ≠ 1) : s.withOpen h f act = s.refuse h f .badValue := by
  unfold State.withOpen
  split
  · next body => simp [body] at length
  · rfl

theorem openWithId_of_other {n : Nat} (other : ∀ p, s.proposal = some p → p.id ≠ n) : s.openWithId n = none := by
  unfold State.openWithId
  split
  · rfl
  · next p is => exact if_neg (other p is)

theorem openWithId_of_open {n : Nat} (is : s.proposal = some p) (names : p.id = n) : s.openWithId n = some p := by
  simp only [State.openWithId, is, names, if_true]

theorem withOpen_of_other (body : f.body = [id]) (other : ∀ p, s.proposal = some p → p.id ≠ id.toNat) :
    s.withOpen h f act = s.refuse h f .noProposal := by
  simp only [State.withOpen, body, openWithId_of_other other]

theorem withOpen_of_open (body : f.body = [id]) (is : s.proposal = some p) (names : p.id = id.toNat) :
    s.withOpen h f act = act p s := by
  simp only [State.withOpen, body, openWithId_of_open is names]

/-- A request row whose body is the id of the open proposal: refused for another length, then for another id or with none open,
else left to what the request does with the proposal. -/
theorem exec_withOpen {i : Instr} (row : exec i s = .next ((taken s h).withOpen h f act)) :
    (f.body.length ≠ 1 → exec i s = .next (refusedWith s h f .badValue)) ∧
      ∀ id, f.body = [id] →
        ((∀ p, s.proposal = some p → p.id ≠ id.toNat) → exec i s = .next (refusedWith s h f .noProposal)) ∧
        ∀ p, s.proposal = some p → p.id = id.toNat → exec i s = .next (act p (taken s h)) :=
  ⟨fun length => row.trans (congrArg _ (withOpen_of_length length)), fun _ body =>
    ⟨fun other => row.trans (congrArg _ (withOpen_of_other body other)),
     fun _ is names => row.trans (congrArg _ (withOpen_of_open body is names))⟩⟩

/-- A proposal that closes without adoption is gone before PROPOSAL_CLOSED is broadcast, and nothing else changes (R156). -/
theorem broadcast_closeProposal (s : State) (p : Proposal) (o : CloseOutcome) (d : Option HostId) :
    Broadcast (.proposalClosed p.id o d) { s with proposal := none } (s.closeProposal p o d) := broadcast_broadcast ..

/-- A proposal that is adopted is gone before its change takes effect, and PROPOSAL_CLOSED follows the notices of that effect
(R156). -/
theorem broadcast_adoptProposal (s : State) (straps : BitVec 2) (p : Proposal) :
    Broadcast (.proposalClosed p.id .adopted none) (State.adopt straps p.change { s with proposal := none })
      (s.adoptProposal straps p) := broadcast_broadcast ..

end Open

/-! ### The rows -/

section Rows
variable {s : State} {h : HostId} {f : Frame}

theorem exec_consent (n : Served .consent s h f) (straps : BitVec 2) :
    exec (.consent straps) s = .next ((taken s h).withOpen h f fun p t => t.consentTo straps h f p) :=
  congrArg _ (taking_served n (handleConsent straps))

theorem exec_dissent (n : Served .dissent s h f) :
    exec .dissent s = .next ((taken s h).withOpen h f fun p t =>
      if p.electorate.read h = false then t.refuse h f .notElector
      else (t.closeProposal p .rejected (some h)).respond h f (.dissent p.id)) :=
  congrArg _ (taking_served n handleDissent)

theorem exec_withdraw (n : Served .withdraw s h f) :
    exec .withdraw s = .next ((taken s h).withOpen h f fun p t =>
      if p.proposer = h then (t.closeProposal p .withdrawn none).respond h f (.withdraw p.id)
      else t.refuse h f .notOwner) :=
  congrArg _ (taking_served n handleWithdraw)

end Rows

/-! ### CONSENT -/

section Consent
variable {s : State} {h : HostId} {f : Frame} {p : Proposal}

/-- A proposal with the consent of host h (R151). -/
def Proposal.consented (h : HostId) (p : Proposal) : Proposal := { p with consents := p.consents.upd h fun _ => true }

theorem Proposal.consented_read (h k : HostId) (p : Proposal) :
    (Proposal.consented h p).consents.read k = true ↔ k = h ∨ p.consents.read k = true := by
  rw [Proposal.consented, Table.read_upd]
  by_cases e : k = h <;> simp [e]

theorem consentTo_of_no_elector (straps : BitVec 2) (no : p.electorate.read h = false) :
    s.consentTo straps h f p = s.refuse h f .notElector := if_pos no

variable (straps : BitVec 2) (elector : p.electorate.read h = true)
include elector

theorem consentTo_of_given (given : p.consents.read h = true) :
    s.consentTo straps h f p = s.respond h f (.consent p.id .opened) := by
  simp only [State.consentTo, elector, given, Bool.true_eq_false, if_false, if_true]

/-- A consent that was lacking adopts the proposal when no other is, and joins the consent set otherwise. -/
theorem consentTo_of_lacking (lacking : p.consents.read h = false) :
    s.consentTo straps h f p =
      if (Proposal.consented h p).consents = (Proposal.consented h p).electorate then
        (s.adoptProposal straps (Proposal.consented h p)).respond h f (.consent p.id .adopted)
      else (s.withProposal (some (Proposal.consented h p))).respond h f (.consent p.id .opened) := by
  simp only [State.consentTo, elector, lacking, Bool.true_eq_false, Bool.false_eq_true, if_false]
  rfl

end Consent

/-- Settles O47: the lines of R151's table, each with those before it passed. -/
theorem consentFollowsItsTable : Obligations.ConsentFollowsItsTable := by
  intro s h f straps n
  obtain ⟨length, named⟩ := exec_withOpen (exec_consent n straps)
  refine ⟨length, fun id body => ?_⟩
  obtain ⟨other, opened⟩ := named id body
  refine ⟨other, fun p is names => ?_⟩
  have row := opened p is names
  refine ⟨fun no => ?notElector, fun elector given => ?given, fun elector lacking => ?lacking⟩
  case notElector => rw [row, consentTo_of_no_elector straps no, refuse_taken]
  case given => rw [row, consentTo_of_given straps elector given, respond_taken]
  case lacking =>
    rw [consentTo_of_lacking straps elector lacking] at row
    refine ⟨Proposal.consented h p, rfl, fun k => Proposal.consented_read h k p, fun wanting => ?_, fun complete => ?_⟩
    · rw [row, if_neg wanting]
      rfl
    · exact ⟨_, broadcast_adoptProposal (taken s h) straps (Proposal.consented h p), by rw [row, if_pos complete]⟩

/-! ### DISSENT, WITHDRAW and the window -/

/-- Settles O48: each of the three closings is the proposal's removal with its broadcast, on the state the taking leaves, or with
the clock at the window's end. -/
theorem proposalClosesWithoutEffect : Obligations.ProposalClosesWithoutEffect := by
  refine ⟨fun s h f n => ?dissent, fun s h f n => ?withdraw, fun s p is => ?window⟩
  case dissent =>
    obtain ⟨length, named⟩ := exec_withOpen (exec_dissent n)
    refine ⟨length, fun id body => ?_⟩
    obtain ⟨other, opened⟩ := named id body
    refine ⟨other, fun p is names => ?_⟩
    have row := opened p is names
    refine ⟨fun no => ?_, fun elector => ⟨_, broadcast_closeProposal (taken s h) p .rejected (some h), ?_⟩⟩
    · rw [row, if_pos no, refuse_taken]
    · rw [row, if_neg (by simp [elector])]
  case withdraw =>
    obtain ⟨length, named⟩ := exec_withOpen (exec_withdraw n)
    refine ⟨length, fun id body => ?_⟩
    obtain ⟨other, opened⟩ := named id body
    refine ⟨other, fun p is names => ?_⟩
    have row := opened p is names
    refine ⟨fun other => ?_, fun own => ⟨_, broadcast_closeProposal (taken s h) p .withdrawn none, ?_⟩⟩
    · rw [row, if_neg other, refuse_taken]
    · rw [row, if_pos own]
  case window =>
    refine ⟨_, ?_, broadcast_closeProposal (s.reach p.window) p .expired none⟩
    simp only [exec, execWindowTimerExpiry, is]

end Sys2Proof
end

section
/-! The arrival of a notice at an outbox (R170), and the law that it keeps (R169, R171). -/

namespace Sys2Proof

open Machine

/-! ### Entries -/

@[simp] theorem isNotice_notice (n : Notice) : (OutEntry.notice n).isNotice = true := rfl

@[simp] theorem isMarker_noticesLost (n : Nat) : (OutEntry.notice (.noticesLost n)).isMarker = true := rfl

section Counts
variable (box : List OutEntry)

@[simp] theorem notices_nil : notices [] = 0 := rfl
@[simp] theorem responses_nil : responses [] = 0 := rfl
@[simp] theorem notices_append (back : List OutEntry) : notices (box ++ back) = notices box + notices back :=
  List.countP_append
@[simp] theorem responses_append (back : List OutEntry) : responses (box ++ back) = responses box + responses back :=
  List.countP_append
@[simp] theorem notices_notice (n : Notice) : notices (.notice n :: box) = notices box + 1 := List.countP_cons_of_pos rfl
@[simp] theorem responses_notice (n : Notice) : responses (.notice n :: box) = responses box :=
  List.countP_cons_of_neg Bool.false_ne_true
@[simp] theorem notices_response (k : BitVec 7) (t : Byte) (a : Answer) : notices (.response k t a :: box) = notices box :=
  List.countP_cons_of_neg Bool.false_ne_true
@[simp] theorem responses_response (k : BitVec 7) (t : Byte) (a : Answer) :
    responses (.response k t a :: box) = responses box + 1 := List.countP_cons_of_pos rfl

end Counts

/-- A marker stays one as it counts, and no other entry changes its kind. -/
theorem countLost_kind (e : OutEntry) :
    e.countLost.isNotice = e.isNotice ∧ e.countLost.isResponse = e.isResponse ∧ e.countLost.isMarker = e.isMarker := by
  unfold OutEntry.countLost
  split <;> exact ⟨rfl, rfl, rfl⟩

/-- Only a marker counts. -/
theorem countLost_of_not_marker {e : OutEntry} (no : e.isMarker = false) : e.countLost = e := by
  unfold OutEntry.countLost
  split
  · cases no
  · rfl

theorem map_countLost_of_no_marker {box : List OutEntry} (no : ∀ e ∈ box, e.isMarker = false) :
    box.map OutEntry.countLost = box :=
  (List.map_congr_left fun e m => countLost_of_not_marker (no e m)).trans (List.map_id' box)

theorem any_isMarker_eq_false {box : List OutEntry} : box.any OutEntry.isMarker = false ↔ ∀ e ∈ box, e.isMarker = false := by
  simp

theorem any_isNotice_eq_false {box : List OutEntry} : box.any OutEntry.isNotice = false ↔ notices box = 0 := by
  simp [notices]

/-! ### The three rows of R170 -/

theorem arrive_of_room {box : List OutEntry} (no : ∀ e ∈ box, e.isMarker = false) (room : notices box < Config.noticeCapacity)
    (n : Notice) : arrive n box = box ++ [.notice n] := by
  rw [arrive, any_isMarker_eq_false.2 no, if_neg Bool.false_ne_true]
  exact if_pos room

theorem arrive_of_full {box : List OutEntry} (no : ∀ e ∈ box, e.isMarker = false) (full : Config.noticeCapacity ≤ notices box)
    (n : Notice) : arrive n box = markYoungest box := by
  rw [arrive, any_isMarker_eq_false.2 no, if_neg Bool.false_ne_true]
  exact if_neg (Nat.not_lt.2 full)

theorem arrive_of_marker {box : List OutEntry} (some : ∃ e ∈ box, e.isMarker = true) (n : Notice) :
    arrive n box = box.map OutEntry.countLost := if_pos (List.any_eq_true.2 some)

/-- The youngest notice is the one with no notice behind it. -/
theorem markYoungest_eq (y : Notice) {back : List OutEntry} (youngest : notices back = 0) (front : List OutEntry) :
    markYoungest (front ++ .notice y :: back) = front ++ .notice (.noticesLost 2) :: back := by
  induction front with
  | nil => simp [markYoungest, any_isNotice_eq_false.2 youngest]
  | cons e rest ih => simp [markYoungest, ih]

/-- An outbox that holds a notice has a youngest one. -/
theorem exists_youngest {box : List OutEntry} (some : 0 < notices box) :
    ∃ front y back, box = front ++ .notice y :: back ∧ notices back = 0 := by
  induction box with
  | nil => cases some
  | cons e rest ih =>
    by_cases more : 0 < notices rest
    · obtain ⟨front, y, back, rfl, youngest⟩ := ih more
      exact ⟨e :: front, y, back, rfl, youngest⟩
    · cases e with
      | notice y => exact ⟨[], y, rest, rfl, Nat.eq_zero_of_not_pos more⟩
      | response => exact absurd some more

/-- What the arrival of a notice can do, by a standing marker and the notices held (R170). -/
theorem arrive_cases (box : List OutEntry) (n : Notice) :
    arrive n box = box.map OutEntry.countLost ∨
      (∀ e ∈ box, e.isMarker = false) ∧
        (notices box < Config.noticeCapacity ∧ arrive n box = box ++ [.notice n] ∨
          ∃ front y back, box = front ++ .notice y :: back ∧ notices back = 0 ∧
            arrive n box = front ++ .notice (.noticesLost 2) :: back) := by
  by_cases some : ∃ e ∈ box, e.isMarker = true
  · exact .inl (arrive_of_marker some n)
  · have no : ∀ e ∈ box, e.isMarker = false := by simpa using some
    refine .inr ⟨no, ?_⟩
    by_cases room : notices box < Config.noticeCapacity
    · exact .inl ⟨room, arrive_of_room no room n⟩
    · have full : Config.noticeCapacity ≤ notices box := Nat.not_lt.1 room
      obtain ⟨front, y, back, rfl, none⟩ := exists_youngest (Nat.lt_of_lt_of_le (by decide) full)
      exact .inr ⟨front, y, back, rfl, none, (arrive_of_full no full n).trans (markYoungest_eq y none front)⟩

/-- Settles O55: each row of R170 is an equation of the arrival. -/
theorem noticeArrivalFollowsItsTable : Obligations.NoticeArrivalFollowsItsTable := by
  intro s h n att
  have becomes {f : List OutEntry → List OutEntry} (row : arrive n (s.outbox h) = f (s.outbox h)) :
      s.post h n = { s with outboxes := s.outboxes.upd h f } := by
    rw [post_of_attached att, Table.upd_congr (g := f) _ _ row]
  refine ⟨fun no room => ?joins, fun front y back no full box youngest => ?marks, fun front k back box no => ?counts⟩
  case joins => exact becomes (arrive_of_room no (Nat.lt_succ_of_le room) n)
  case marks =>
    refine becomes ((arrive_of_full no full.ge n).trans ?_)
    rw [box, markYoungest_eq y youngest]
  case counts =>
    have marked : ∃ e ∈ s.outbox h, e.isMarker = true := ⟨_, by rw [box]; simp, isMarker_noticesLost k⟩
    have others := map_countLost_of_no_marker no
    refine becomes ((arrive_of_marker marked n).trans ?_)
    rw [List.map_append] at others
    obtain ⟨before, behind⟩ := List.append_inj others (List.length_map ..)
    rw [box, List.map_append, List.map_cons, before, behind]
    rfl

/-! ### The law of one outbox -/

/-- A marker has no notice behind it: the law R169 states by cutting the outbox at the marker, said of its pairs. -/
theorem markerYoungest_iff {box : List OutEntry} :
    MarkerYoungest box ↔ box.Pairwise fun e x => e.isMarker = true → x.isNotice = false := by
  induction box with
  | nil => exact ⟨fun _ => .nil, fun _ front e back eq => by simp at eq⟩
  | cons e rest ih =>
    rw [List.pairwise_cons, ← ih]
    refine ⟨fun law => ⟨fun x m marker => ?_, fun front y back eq => law (e :: front) y back (by rw [eq]; rfl)⟩, ?_⟩
    · exact Bool.eq_false_iff.2 (List.any_eq_false.1 (law [] e rest rfl marker) x m)
    · rintro ⟨head, tail⟩ front y back eq marker
      cases front with
      | nil =>
        cases eq
        exact List.any_eq_false.2 fun x m => Bool.eq_false_iff.1 (head x m marker)
      | cons z front =>
        cases eq
        exact tail front y back rfl marker

/-- At most 4 notices, a marker the youngest of them (R169). -/
def NoticesInOrder (box : List OutEntry) : Prop := notices box ≤ Config.noticeCapacity ∧ MarkerYoungest box

theorem noticesInOrder_nil : NoticesInOrder [] := ⟨Nat.zero_le _, markerYoungest_iff.2 .nil⟩

/-- With no marker before an entry and no notice behind it, a marker can only be that entry. -/
theorem markerYoungest_of_last {front back : List OutEntry} (e : OutEntry) (no : ∀ x ∈ front, x.isMarker = false)
    (last : notices back = 0) : MarkerYoungest (front ++ e :: back) := by
  have behind : ∀ x ∈ back, x.isNotice = false := by simpa [notices] using last
  refine markerYoungest_iff.2 (List.pairwise_append.2 ⟨?_, List.pairwise_cons.2 ⟨fun x m _ => behind x m, ?_⟩, ?_⟩)
  · exact List.pairwise_of_forall_mem_list fun x m _ _ marker => by simp [no x m] at marker
  · exact List.pairwise_of_forall_mem_list fun x _ y m _ => behind y m
  · exact fun x m _ _ marker => by simp [no x m] at marker

/-- A notice arrives in order (R170, R171). -/
theorem noticesInOrder_arrive {box : List OutEntry} (law : NoticesInOrder box) (n : Notice) :
    NoticesInOrder (arrive n box) := by
  obtain ⟨most, youngest⟩ := law
  rcases arrive_cases box n with eq | ⟨no, ⟨room, eq⟩ | ⟨front, y, back, rfl, none, eq⟩⟩ <;> rw [eq]
  · refine ⟨?_, markerYoungest_iff.2 (List.pairwise_map.2 ?_)⟩
    · simpa [notices, List.countP_map, Function.comp_def, countLost_kind] using most
    · simpa [countLost_kind] using markerYoungest_iff.1 youngest
  · exact ⟨by simpa using room, markerYoungest_of_last _ no rfl⟩
  · exact ⟨by simpa using most, markerYoungest_of_last _ (fun e m => no e (by simp [m])) none⟩

/-- A notice that arrives takes the place of no response (R170). -/
theorem responses_arrive (box : List OutEntry) (n : Notice) : responses (arrive n box) = responses box := by
  rcases arrive_cases box n with eq | ⟨-, ⟨-, eq⟩ | ⟨front, y, back, rfl, -, eq⟩⟩ <;> rw [eq]
  · simp [responses, List.countP_map, Function.comp_def, countLost_kind]
  · simp
  · simp

end Sys2Proof
end

section
/-! The ends of a PEEK and a TAKE (R173, R174), and what every transaction clocks out (R179, R180, R188). -/

namespace Sys2Proof

open Machine

/-! ### TAKE -/

/-- A TAKE that ends: port h is deselected, and its outbox is what the head fixed leaves, or as it was after a flush or a fall of
RESET (R174, R175, R177). -/
theorem exec_take_rise (s : State) (h : HostId) (n : Nat) :
    exec (.take h (.rise n)) s = .next
      { s with
        ports := (s.endFetch h n).ports
        outboxes := s.outboxes.upd h fun box => if (s.transaction h).spares then box else (s.fixed h).taken n box } := rfl

/-- A transaction spares the outbox only when a flush or a fall of RESET has marked it since the fall of select (R175, R177). -/
theorem transaction_spares (s : State) (h : HostId) :
    (s.transaction h).spares = (s.port h).select.elim false Selection.spares := by
  unfold State.transaction
  cases (s.port h).select <;> rfl

theorem taken_of_empty {x : HeadFix} (empty : x.entry = none) (n : Nat) (box : List OutEntry) : x.taken n box = box := by
  simp only [HeadFix.taken, empty]

theorem taken_of_entry {x : HeadFix} {e : OutEntry} (head : x.entry = some e) (n : Nat) (box : List OutEntry) :
    x.taken n box = if e.frame.length ≤ n then takeHead e box else box := by
  simp only [HeadFix.taken, head]

/-- The head goes, unless a marker's count was clocked out and the head is a marker (R174). -/
theorem takeHead_cons (e head : OutEntry) (rest : List OutEntry) :
    takeHead e (head :: rest) = rest ∨
      ∃ k m, e = .notice (.noticesLost k) ∧ head = .notice (.noticesLost m) ∧ k < m ∧
        takeHead e (head :: rest) = .notice (.noticesLost (m - k)) :: rest := by
  simp only [takeHead]
  split
  · next k m =>
    by_cases le : m ≤ k
    · exact .inl (if_pos le)
    · exact .inr ⟨k, m, rfl, rfl, Nat.lt_of_not_le le, if_neg le⟩
  · exact .inl rfl

theorem takeHead_of_not_marker {e : OutEntry} (other : e.isMarker = false) (head : OutEntry) (rest : List OutEntry) :
    takeHead e (head :: rest) = rest := by
  rcases takeHead_cons e head rest with eq | ⟨k, m, rfl, -⟩
  · exact eq
  · cases other

theorem takeHead_marker (k m : Nat) (rest : List OutEntry) :
    takeHead (.notice (.noticesLost k)) (.notice (.noticesLost m) :: rest) =
      if m ≤ k then rest else .notice (.noticesLost (m - k)) :: rest := rfl

theorem endFetch_port (s : State) (h k : HostId) (n : Nat) :
    (s.endFetch h n).port k =
      if k = h then
        { s.port k with select := none, fix := none, sdo := s.statusShown h :: (s.fixed h).clockedOut n }
      else s.port k := State.selectRise_port ..

/-- Settles O60: by the head fixed, and by how the TAKE that clocked it out found the outbox. -/
theorem takeRemovesTheHeadItClockedOut : Obligations.TakeRemovesTheHeadItClockedOut := by
  intro s h n x spares fixed spared
  have head : s.fixed h = x := fixed.symm
  have sparing : (s.transaction h).spares = spares := (transaction_spares s h).trans spared.symm
  obtain ⟨t, is⟩ : ∃ t : State, t = { s with
      ports := (s.endFetch h n).ports
      outboxes := s.outboxes.upd h fun box => if spares then box else x.taken n box } := ⟨_, rfl⟩
  have box : t.outbox h = if spares then s.outbox h else x.taken n (s.outbox h) := by
    rw [is]
    exact Table.read_upd_self ..
  have port (k : HostId) : t.port k = (s.endFetch h n).port k := by rw [is]; rfl
  have own := (port h).trans ((endFetch_port s h h n).trans (if_pos rfl))
  refine ⟨t, ?run, ?frame, by rw [own], by rw [own], by rw [own], by rw [own], fun k other => ?ports,
    fun empty => ?empty, fun e entry => ⟨fun kept => ?kept, fun whole go => ⟨fun rest other held => ?other, ?marker⟩⟩⟩
  case run => rw [exec_take_rise, head, sparing, is]
  case frame =>
    have kept : t.outboxes = s.outboxes.upd h fun _ => t.outbox h := by
      have outboxes : t.outboxes = s.outboxes.upd h fun box => if spares then box else x.taken n box := by rw [is]
      rw [box, outboxes]
      exact Table.upd_congr _ _ rfl
    rw [← kept, is]
  case ports => rw [port, endFetch_port, if_neg other]
  case empty => rw [box, taken_of_empty empty, ite_self]
  case kept =>
    rw [box, taken_of_entry entry]
    rcases kept with short | rfl
    · rw [if_neg (Nat.not_le.2 short), ite_self]
    · rfl
  case other => rw [box, taken_of_entry entry, go, if_pos whole, held, takeHead_of_not_marker other]; rfl
  case marker =>
    rintro k m rest rfl held
    have left : t.outbox h = if m ≤ k then rest else .notice (.noticesLost (m - k)) :: rest := by
      rw [box, taken_of_entry entry, go, if_pos whole, held, takeHead_marker]
      rfl
    exact ⟨fun le => left.trans (if_pos le), fun lt => left.trans (if_neg (Nat.not_le.2 lt))⟩

/-! ### What is clocked out -/

/-- The fall of select, with the status byte it composes (R179, R180). -/
theorem selectFall_of_high {s : State} {h : HostId} (high : (s.port h).select = none) :
    s.selectFall h = { s with
      ports := s.ports.upd h fun p => { p with select := some { status := s.statusByte h, spares := false } } } := by
  simp only [State.selectFall, high]
  rfl

/-- The falls of all five rows are one event: the code that follows is not clocked yet (R179). -/
theorem exec_fall {s : State} {h : HostId} {i : Instr} {code : Byte} {stray : Fin 8}
    (row : i ∈ [Instr.status h .fall, .request h .fall stray, .peek h .fall, .take h .fall, .unknownTransaction h code .fall])
    (unknown : code ∉ [0x00#8, 0x5A#8, 0x6C#8, 0x6D#8]) : exec i s = .next (s.selectFall h) := by
  simp only [List.mem_cons, List.not_mem_nil, or_false] at row
  rcases row with rfl | rfl | rfl | rfl | rfl
  case inr.inr.inr.inr => exact congrArg _ (if_pos (transactionOf_eq_unknown.2 unknown))
  all_goals rfl

/-- The fixing of the head stores the transaction and the head that its end would take (R188, log entry 11). -/
theorem exec_outboxHeadFix {s : State} {h : HostId} (free : (s.port h).fix = none) :
    exec (.outboxHeadFix h) s = .next
      (s.withPort h fun p => { p with select := some (s.transaction h), fix := some (s.headFix h) }) := by
  simp only [exec, execOutboxHeadFix, free]

/-- A TAKE whose head was fixed ends as one that fixes it at its end, where nothing came between (R174, log entry 11). -/
theorem exec_take_of_fixed {s u : State} {h : HostId} (free : (s.port h).fix = none)
    (run : exec (.outboxHeadFix h) s = .next u) (n : Nat) : exec (.take h (.rise n)) s = exec (.take h (.rise n)) u := by
  cases (exec_outboxHeadFix free).symm.trans run
  generalize is : s.withPort h _ = u
  have port : u.port h = { s.port h with select := some (s.transaction h), fix := some (s.headFix h) } := by
    rw [← is, State.withPort_port, if_pos rfl]
  have transaction : u.transaction h = s.transaction h := State.transaction_of_select (by rw [port])
  have fixed : u.fixed h = s.fixed h := by simp [State.fixed, port, free]
  have ends : u.endFetch h n = s.endFetch h n := by
    rw [State.endFetch, State.statusShown, transaction, fixed, ← is]
    simp only [State.selectRise, State.withPort, Table.upd_upd]
    rfl
  rw [exec_take_rise, exec_take_rise, ends, transaction, fixed, ← is]
  rfl

/-- The port status byte as a number (R180). -/
theorem statusByte_toNat {s : State} {h : HostId} (few : (s.outbox h).length ≤ 8) :
    (s.statusByte h).toNat = 128 * s.ready.toNat + 16 * (s.port h).result.code + (s.outbox h).length := by
  have ready : s.ready.toNat ≤ 1 := Bool.toNat_le _
  have result : (s.port h).result.code ≤ 6 := by cases (s.port h).result <;> decide
  rw [State.statusByte, BitVec.toNat_ofNat]
  omega

/-- A frame begins with its class and kind (R188). -/
theorem outFrame_head? (classKind : Nat) (tag : Byte) (status reason : Nat) (body : List Byte) :
    (outFrame classKind tag status reason body).head? = some (BitVec.ofNat 8 classKind) := rfl

/-- Class and kind of a response stay below 80h, those of a notice below 8Dh (R188). -/
theorem frame_head?_ne_empty (e : OutEntry) : e.frame.head? ≠ some 0xFF#8 := by
  have first {n : Nat} (small : n < 255) : (some (BitVec.ofNat 8 n) : Option Byte) ≠ some 0xFF#8 := by
    simp only [ne_eq, Option.some.injEq, BitVec.toNat_eq, BitVec.toNat_ofNat]
    omega
  cases e with
  | response k t a =>
    rw [OutEntry.frame, outFrame_head?]
    exact first (by omega)
  | notice n =>
    have code : n.code ≤ 12 := by cases n <;> simp [Notice.code]
    rw [OutEntry.frame, outFrame_head?]
    exact first (by omega)

/-- Settles O59: the fall composes the status byte, and each rise is a deselection of the port with the bytes it shows. -/
theorem statusAndPeekShowThePort : Obligations.StatusAndPeekShowThePort := by
  refine ⟨fun s h high i code stray row unknown => ?fall, ?ends, fun s h few => statusByte_toNat few, frame_head?_ne_empty⟩
  case fall => rw [exec_fall row unknown, selectFall_of_high high]
  case ends =>
    rintro s h shown y is rfl
    have transaction : s.transaction h = y := is.symm
    have status : s.statusShown h = y.status := congrArg Selection.status transaction
    have zeros (n : Nat) :
        s.selectRise h (s.statusAndZeros h n) = s.selectRise h (y.status :: List.replicate n 0#8) := by
      rw [State.statusAndZeros, status]
    refine ⟨fun bits short => congrArg _ (if_pos short), fun bits long => ?status, fun code n unknown => ?unknown,
      fun frame stray => ⟨_, rfl, ?request⟩, fun free => ?fix, fun n x bytes fixed clocked => ?fetch⟩
    case status => exact congrArg _ ((if_neg (Nat.not_lt.2 long)).trans (zeros _))
    case unknown => exact congrArg _ ((if_pos (transactionOf_eq_unknown.2 unknown)).trans (zeros n))
    case request =>
      rw [← status]
      exact congrArg Port.sdo (Table.read_upd_self ..)
    case fix =>
      rw [exec_outboxHeadFix free, transaction]
      rfl
    case fetch =>
      have shown : s.endFetch h n = s.selectRise h (y.status :: bytes) := by
        have whole : bytes = x.clockedOut n := by
          rw [clocked, HeadFix.clockedOut]
          cases x.entry <;> rfl
        have head : s.fixed h = x := fixed.symm
        rw [State.endFetch, status, head, whole]
      refine ⟨congrArg _ shown, ⟨_, exec_take_rise s h n, ?_⟩, fun u free run => exec_take_of_fixed free run n⟩
      rw [shown]
      rfl

end Sys2Proof
end

section
/-! The law of the outboxes through every step (R168, R169, R171): a command adds to an outbox by the arrival of notices alone, but
for the one response that a request's handling ends in, and that takes the place of the frame held for it. -/

namespace Sys2Proof

open Machine

/-! ### The law, carried from one state to another -/

/-- From `s` to `t` every port holds the frame it held, no outbox has more responses, and notices in order stay so. -/
structure Eased (s t : State) : Prop where
  buffer : ∀ h, (t.port h).buffer = (s.port h).buffer
  responses : ∀ h, responses (t.outbox h) ≤ responses (s.outbox h)
  notices : ∀ h, NoticesInOrder (s.outbox h) → NoticesInOrder (t.outbox h)

theorem Eased.refl (s : State) : Eased s s := ⟨fun _ => rfl, fun _ => Nat.le_refl _, fun _ => id⟩

theorem Eased.trans {s t u : State} (first : Eased s t) (second : Eased t u) : Eased s u where
  buffer h := (second.buffer h).trans (first.buffer h)
  responses h := (second.responses h).trans (first.responses h)
  notices h := second.notices h ∘ first.notices h

/-- Outboxes and ports are all that the law sees. -/
theorem eased_of_eq {s t : State} (outboxes : t.outboxes = s.outboxes) (ports : t.ports = s.ports) : Eased s t where
  buffer h := by rw [State.port, State.port, ports]
  responses h := by rw [State.outbox, State.outbox, outboxes]
  notices h := by rw [State.outbox, State.outbox, outboxes]; exact id

/-- What is done to neither outboxes nor ports may come first. -/
theorem Eased.after {s t u : State} (e : Eased t u) (outboxes : t.outboxes = s.outboxes) (ports : t.ports = s.ports) :
    Eased s u := (eased_of_eq outboxes ports).trans e

theorem Eased.outboxLaw {s t : State} (e : Eased s t) (law : OutboxLaw s) : OutboxLaw t := fun h => by
  obtain ⟨room, notices⟩ := law h
  have fewer := e.responses h
  exact ⟨by rw [e.buffer]; omega, e.notices h notices⟩

theorem eased_withPort {s : State} {h : HostId} {f : Port → Port} (buffer : (f (s.port h)).buffer = (s.port h).buffer) :
    Eased s (s.withPort h f) := by
  refine { Eased.refl s with buffer := fun k => ?_ }
  rw [State.withPort_port]
  split
  · next here => exact here ▸ buffer
  · rfl

theorem eased_withOutbox {s : State} {h : HostId} {f : List OutEntry → List OutEntry}
    (fewer : responses (f (s.outbox h)) ≤ responses (s.outbox h))
    (keeps : NoticesInOrder (s.outbox h) → NoticesInOrder (f (s.outbox h))) : Eased s (s.withOutbox h f) := by
  refine ⟨fun _ => rfl, fun k => ?_, fun k => ?_⟩ <;> rw [State.withOutbox_outbox] <;> split
  · next here => exact here ▸ fewer
  · exact Nat.le_refl _
  · next here => exact here ▸ keeps
  · exact id

theorem eased_post (s : State) (h : HostId) (n : Notice) : Eased s (s.post h n) := by
  unfold State.post
  split
  · exact eased_withOutbox (responses_arrive ..).le fun law => noticesInOrder_arrive law n
  · exact .refl s

/-- Of the acts only a posting reaches an outbox, and none a port. -/
theorem eased_act {s t : State} (a : Act s t) : Eased s t := by
  cases a with
  | post h n => exact eased_post s h n
  | leave => rw [State.setEntries_eq]; exact eased_of_eq rfl rfl
  | admitEntry e =>
    refine eased_of_eq (Table.ext_read fun h => admitEntry_outbox s e h) ?_
    exact ((quiet_createGrants s e e.items).trans (quiet_setEntries ..)).ports
  | finish => rw [removeGrant_eq]; exact eased_of_eq rfl rfl
  | close => rw [endClosing_eq]; exact eased_of_eq rfl rfl
  | mark | discharge | fault => exact eased_of_eq rfl rfl

theorem eased_acts {s t : State} (a : Acts s t) : Eased s t :=
  a.relates .refl (fun _ _ _ => .trans) fun _ _ => eased_act

/-! ### Samples and channel timers -/

theorem eased_postHolder (s : State) (c : ChanId) (n : Grant → Notice) : Eased s (s.postHolder c n) := by
  unfold State.postHolder
  split
  · exact .refl s
  · exact eased_acts (acts_postOwner ..)

theorem eased_trip (s : State) (c : ChanId) (k : TripCause) : Eased s (s.trip c k) :=
  (eased_postHolder ..).after rfl rfl

theorem eased_sampleArrival (s : State) (c : ChanId) (off good : Bool) (v : Verdict) :
    Eased s (s.sampleArrival c off good v) := by
  cases v with
  | overdraw => exact eased_trip s c .overdraw
  | severe => exact eased_trip s c .severe
  | none =>
    by_cases calm : Uneventful off (s.chan c)
    · rw [sampleArrival_of_uneventful good calm]
      split
      · exact (eased_postHolder s c _).trans (eased_of_eq rfl (by rw [postHolder_eq]))
      · exact eased_of_eq rfl rfl
    · exact eased_acts (acts_of_eventful good calm)

theorem eased_completeSlot (s : State) (c : ChanId) (r : Reading) : Eased s (s.completeSlot c r) := by
  unfold State.completeSlot
  split
  · exact .refl s
  · next sc _ =>
    split
    · have recorded : Eased s (sampled (s.advanceScan sc) c (sampleOf r)) := by
        rw [sampled_eq]
        exact eased_of_eq rfl rfl
      have counted (t : State) : Eased t (t.countRound c) := by
        rw [State.countRound_eq]
        exact eased_of_eq rfl rfl
      exact (recorded.trans (eased_sampleArrival ..)).trans (counted _)
    · exact .refl s

/-! ### Adoptions and proposals -/

theorem eased_restartRings (s : State) : Eased s s.restartRings := by
  rw [State.restartRings_eq]
  exact eased_of_eq rfl rfl

theorem eased_recompute (s : State) (k : BudgetCause) : Eased s (s.recompute k) :=
  (eased_acts (acts_recompute s k)).after rfl rfl

theorem eased_adopt (s : State) (straps : BitVec 2) (ch : Change) : Eased s (s.adopt straps ch) := by
  cases ch with
  | setBudget => exact (eased_recompute ..).after rfl rfl
  | setCeiling => exact (eased_acts (acts_failAndScan ..)).after rfl rfl
  | setChannelTiming | setLease => exact eased_of_eq rfl rfl
  | setHostCap h v =>
    rw [State.adopt, State.adoptCap]
    split
    · exact (eased_acts ((acts_failEntries ..).trans (acts_scanQueue _))).after rfl rfl
    · exact (eased_acts (acts_failEntries ..)).after rfl rfl
  | setQueueAge =>
    rw [State.adopt, State.adoptQueueAge]
    split
    · exact (eased_acts (acts_scanQueue _)).after rfl rfl
    · exact eased_of_eq rfl rfl
  | setAveraging => exact (eased_restartRings _).after rfl rfl
  | clearChannelFault =>
    rw [State.adopt, State.adoptClearFault]
    split <;> exact eased_of_eq rfl rfl
  | forceRelease =>
    rw [State.adopt, State.adoptForceRelease]
    split
    · exact .refl s
    · split
      · exact eased_acts (acts_releaseGrant ..)
      · exact .refl s
  | resetPart =>
    have read : Eased s (s.readStraps straps) := eased_of_eq rfl rfl
    have emptied (t : State) : Eased t ((t.failEntries (fun _ => true) .reset).releaseAll (fun _ => true) .reset) :=
      eased_acts ((acts_failEntries ..).trans (acts_releaseAll ..))
    have defaulted (t : State) (k : Configuration) : Eased t ((t.withConfig fun _ => k).recompute .config) :=
      (eased_recompute ..).after rfl rfl
    have zeroed (t : State) : Eased t t.zeroTallies := eased_of_eq rfl rfl
    exact (((read.trans (emptied _)).trans (defaulted _ _)).trans (eased_restartRings _)).trans (zeroed _)

theorem eased_adoptProposal (s : State) (straps : BitVec 2) (p : Proposal) : Eased s (s.adoptProposal straps p) :=
  ((eased_adopt ..).trans (eased_acts (acts_broadcast ..))).after rfl rfl

theorem eased_closeProposal (s : State) (p : Proposal) (o : CloseOutcome) (d : Option HostId) :
    Eased s (s.closeProposal p o d) := (eased_acts (acts_broadcast ..)).after rfl rfl

/-- A session that closes empties its outbox (R175). -/
theorem eased_closeSession (s : State) (straps : BitVec 2) (h : HostId) (cause : CloseCause) :
    Eased s (s.closeSession straps h cause) := by
  have flushed : Eased s (s.flush h) :=
    (eased_withOutbox (Nat.zero_le _) fun _ => noticesInOrder_nil).trans (eased_withPort rfl)
  have closed : Eased s (justClosed s h cause) := flushed.trans (eased_of_eq rfl rfl)
  have torn : Eased (emptied s h cause) ((emptied s h cause).consentTeardown straps h) :=
    consentTeardown_cases straps (fun _ => .refl _) (fun _ => eased_closeProposal ..)
      (fun _ => eased_adoptProposal ..) fun _ => eased_of_eq rfl rfl
  rw [closeSession_eq]
  exact ((closed.trans (eased_acts (acts_emptied ..))).trans torn).trans (eased_act (.close ..))

/-! ### Requests -/

/-- From `s` to `t` the part does what eases the law, and in the end puts one response to host h's frame into its outbox (R168,
R186). -/
def Answered (h : HostId) (f : Frame) (s t : State) : Prop := ∃ u a, Eased s u ∧ t = u.respond h f a

section Handling
variable {s : State} {h : HostId} {f : Frame}

theorem Eased.answered {t : State} (e : Eased s t) (a : Answer) : Answered h f s (t.respond h f a) := ⟨t, a, e, rfl⟩

theorem answered_of_eq {t : State} (a : Answer) (outboxes : t.outboxes = s.outboxes) (ports : t.ports = s.ports) :
    Answered h f s (t.respond h f a) := (eased_of_eq outboxes ports).answered a

theorem answered_respond (a : Answer) : Answered h f s (s.respond h f a) := (Eased.refl s).answered a

theorem answered_refuse (r : Reason) : Answered h f s (s.refuse h f r) := answered_respond _

theorem answered_bodiless {answer : State → State} (m : Answered h f s (answer s)) : Answered h f s (s.bodiless h f answer) := by
  unfold State.bodiless
  split
  · exact m
  · exact answered_refuse ..

theorem eased_setEntries (t : State) (es : List WaitEntry) : Eased t (t.setEntries es) := by
  rw [State.setEntries_eq]
  exact eased_of_eq rfl rfl

theorem answered_handleClaim : Answered h f s (handleClaim h f s) := by
  have scanned {t : State} (e : Eased s t) : Eased s (t.scanFor h f.tag).1 := e.trans (eased_acts (acts_scanFor ..))
  unfold handleClaim
  split
  · exact answered_refuse ..
  · split
    · exact answered_refuse ..
    · split
      · unfold State.claimWait
        split
        · exact answered_refuse ..
        · have placed (e : WaitEntry) : Eased s (s.place e).advanceArrival :=
            (eased_setEntries s _).trans (eased_of_eq rfl rfl)
          dsimp only
          split <;> exact (scanned (placed _)).answered _
      · have tried (e : WaitEntry) : Eased s ((s.place e).scanFor h f.tag).1 := scanned (eased_setEntries ..)
        unfold State.claimNoWait
        dsimp only
        split
        · exact (tried _).answered _
        all_goals exact ((tried _).trans (eased_setEntries ..)).answered _

theorem answered_handleCancel : Answered h f s (handleCancel h f s) := by
  unfold handleCancel
  split
  · split
    · exact answered_refuse ..
    · exact ((eased_setEntries ..).trans (eased_acts (acts_scanQueue _))).answered _
  · exact answered_refuse ..

theorem answered_handleResize : Answered h f s (handleResize h f s) := by
  have replaced (c : ChanId) (g : Grant) (amount : Nat) : Eased s (s.setAmount c g amount) := eased_of_eq rfl rfl
  unfold handleResize
  split
  · split
    · exact answered_refuse ..
    · unfold State.resizeChecked
      split
      · exact answered_refuse ..
      · split_ifs
        · exact answered_refuse ..
        · exact answered_refuse ..
        · exact answered_refuse ..
        · exact answered_respond ..
        · exact ((replaced ..).trans (eased_acts (acts_scanQueue _))).answered _
        · unfold State.resizeUp
          split_ifs
          · exact answered_refuse ..
          · exact answered_respond ..
          · exact (replaced ..).answered _
        · exact answered_refuse ..
  · exact answered_refuse ..

theorem answered_handleRelease : Answered h f s (handleRelease h f s) := by
  unfold handleRelease
  split
  · exact answered_refuse ..
  · next c _ =>
    have released := eased_acts (acts_releaseGrant s c .released)
    unfold State.releaseChecked
    split
    · exact answered_refuse ..
    · split
      · exact answered_refuse ..
      · split
        case h_1 | h_2 | h_3 | h_4 | h_5 => exact released.answered _
        case h_6 | h_7 | h_8 => exact answered_refuse ..

/-- CLEAR_TRIP, the readings and ATTACH write no outbox but for their response. -/
theorem answered_handleClearTrip : Answered h f s (handleClearTrip h f s) := by
  unfold handleClearTrip State.clearTripChecked
  repeat' split
  all_goals exact answered_of_eq _ rfl rfl

theorem answered_handleReadChannel : Answered h f s (handleReadChannel h f s) := by
  unfold handleReadChannel State.readChannelChecked
  repeat' split
  all_goals exact answered_of_eq _ rfl rfl

theorem answered_handleReadTally : Answered h f s (handleReadTally h f s) := by
  unfold handleReadTally
  repeat' split
  all_goals exact answered_of_eq _ rfl rfl

theorem answered_handleReadConfig : Answered h f s (handleReadConfig h f s) := by
  unfold handleReadConfig
  repeat' split
  all_goals exact answered_respond _

theorem answered_handleAttach : Answered h f s (handleAttach h f s) := by
  unfold handleAttach
  repeat' split
  all_goals exact answered_of_eq _ rfl rfl

theorem answered_handleDetach (straps : BitVec 2) : Answered h f s (handleDetach straps h f s) :=
  answered_bodiless ((eased_closeSession s straps h .detached).answered _)

theorem answered_handlePropose (straps : BitVec 2) : Answered h f s (handlePropose straps h f s) := by
  have counted : Eased s s.advanceProposal := eased_of_eq rfl rfl
  have opened (o : Option Proposal) : Eased s (s.advanceProposal.withProposal o) := eased_of_eq rfl rfl
  unfold handlePropose
  split
  · exact answered_refuse ..
  · split
    · exact answered_refuse ..
    · split
      · exact answered_refuse ..
      · unfold State.openProposal
        dsimp only
        split
        · exact (counted.trans (eased_adoptProposal ..)).answered _
        · exact ((opened _).trans (eased_acts (acts_postOpened ..))).answered _

theorem answered_withOpen {act : Proposal → State → State} (acts : ∀ p, Answered h f s (act p s)) :
    Answered h f s (s.withOpen h f act) := by
  unfold State.withOpen
  split
  · split
    · exact answered_refuse ..
    · exact acts _
  · exact answered_refuse ..

theorem answered_handleConsent (straps : BitVec 2) : Answered h f s (handleConsent straps h f s) := by
  refine answered_withOpen fun p => ?_
  unfold State.consentTo
  split
  · exact answered_refuse ..
  · split
    · exact answered_respond ..
    · dsimp only
      split
      · exact (eased_adoptProposal ..).answered _
      · exact answered_of_eq _ rfl rfl

theorem answered_handleDissent : Answered h f s (handleDissent h f s) := by
  refine answered_withOpen fun p => ?_
  split
  · exact answered_refuse ..
  · exact (eased_closeProposal ..).answered _

theorem answered_handleWithdraw : Answered h f s (handleWithdraw h f s) := by
  refine answered_withOpen fun p => ?_
  split
  · exact (eased_closeProposal ..).answered _
  · exact answered_refuse ..

end Handling

end Sys2Proof
end

section
/-! The law of the outboxes through every step: the transactions of the ports, the request rows and every other command. -/

namespace Sys2Proof

open Machine

/-! ### The transactions of a port -/

theorem noticesInOrder_tail {e : OutEntry} {rest : List OutEntry} (law : NoticesInOrder (e :: rest)) : NoticesInOrder rest := by
  obtain ⟨most, youngest⟩ := law
  have fewer : notices rest ≤ notices (e :: rest) := (List.sublist_cons_self e rest).countP_le
  exact ⟨fewer.trans most, markerYoungest_iff.2 (List.pairwise_cons.1 (markerYoungest_iff.1 youngest)).2⟩

/-- A marker may count anything. -/
theorem noticesInOrder_recount {m : Nat} (k : Nat) {rest : List OutEntry}
    (law : NoticesInOrder (.notice (.noticesLost m) :: rest)) : NoticesInOrder (.notice (.noticesLost k) :: rest) := by
  obtain ⟨most, youngest⟩ := law
  obtain ⟨behind, tail⟩ := List.pairwise_cons.1 (markerYoungest_iff.1 youngest)
  exact ⟨by simpa using most, markerYoungest_iff.2 (List.pairwise_cons.2 ⟨fun x m _ => behind x m rfl, tail⟩)⟩

/-- What TAKE makes of an outbox: nothing, its tail, or its marker recounted (R174). -/
theorem taken_cases (x : HeadFix) (n : Nat) (box : List OutEntry) :
    x.taken n box = box ∨ (∃ e, box = e :: x.taken n box) ∨
      ∃ k m rest, box = .notice (.noticesLost m) :: rest ∧ x.taken n box = .notice (.noticesLost k) :: rest := by
  cases entry : x.entry with
  | none => exact .inl (taken_of_empty entry ..)
  | some e =>
    rw [taken_of_entry entry]
    split
    · cases box with
      | nil => exact .inl rfl
      | cons head rest =>
        rcases takeHead_cons e head rest with eq | ⟨k, m, -, rfl, -, eq⟩ <;> rw [eq]
        · exact .inr (.inl ⟨head, rfl⟩)
        · exact .inr (.inr ⟨_, m, rest, rfl, rfl⟩)
    · exact .inl rfl

theorem eased_take (s : State) (h : HostId) (n : Nat) :
    Eased s ((s.endFetch h n).withOutbox h fun box => if (s.transaction h).spares then box else (s.fixed h).taken n box) := by
  have ended : Eased s (s.endFetch h n) := eased_withPort rfl
  refine ended.trans (eased_withOutbox ?_ ?_) <;> split
  · exact Nat.le_refl _
  · rcases taken_cases (s.fixed h) n ((s.endFetch h n).outbox h) with eq | ⟨e, eq⟩ | ⟨k, m, rest, eq, eq'⟩
    · rw [eq]
    · exact (eq ▸ List.sublist_cons_self ..).countP_le
    · rw [eq', eq, responses_notice, responses_notice]
  · exact id
  · rcases taken_cases (s.fixed h) n ((s.endFetch h n).outbox h) with eq | ⟨e, eq⟩ | ⟨k, m, rest, eq, eq'⟩ <;> intro law
    · exact eq.symm ▸ law
    · exact noticesInOrder_tail (eq ▸ law)
    · exact eq' ▸ noticesInOrder_recount k (eq ▸ law)

theorem eased_selectFall (s : State) (h : HostId) : Eased s (s.selectFall h) := by
  rw [State.selectFall_eq]
  split
  · exact eased_withPort rfl
  · exact .refl s

/-- A frame is accepted only where fewer than 4 responses wait (R183). -/
theorem room_of_accepted {s : State} {h : HostId} {bytes : List Byte} {stray : Fin 8}
    (accepted : s.judgeRequest h bytes stray = .accepted) : responses (s.outbox h) < Config.responseCapacity := by
  unfold State.judgeRequest at accepted
  split_ifs at accepted with _ _ _ _ full
  exact Nat.lt_of_not_le full

theorem outboxLaw_endRequest {s : State} (law : OutboxLaw s) (h : HostId) (bytes : List Byte) (stray : Fin 8) :
    OutboxLaw (s.endRequest h bytes stray) := by
  by_cases accepted : s.judgeRequest h bytes stray = .accepted
  · have room := room_of_accepted accepted
    intro k
    refine ⟨?_, (law k).2⟩
    change responses (s.outbox k) + ((s.withPort h _).port k).buffer.isSome.toNat ≤ _
    rw [State.withPort_port]
    split
    · next here =>
      subst here
      exact (Nat.add_le_add_left (Bool.toNat_le _) _).trans room
    · exact (law k).1
  · exact (eased_withPort (if_neg accepted)).outboxLaw law

/-! ### The request rows -/

/-- The frame the arbiter takes is one that its port holds (R185). -/
theorem buffer_of_nextFrame {s : State} {h : HostId} {f : Frame} (next : s.nextFrame = some (h, f)) :
    (s.port h).buffer = some f := by
  unfold State.nextFrame at next
  split at next
  · cases next
  · obtain ⟨k, -, found⟩ := List.exists_of_findSome?_eq_some next
    obtain ⟨g, held, eq⟩ := Option.map_eq_some_iff.1 found
    cases eq
    exact held

/-- A response that joins is no notice behind a marker (R169). -/
theorem noticesInOrder_respond {box : List OutEntry} (law : NoticesInOrder box) (k : BitVec 7) (tag : Byte) (a : Answer) :
    NoticesInOrder (box ++ [.response k tag a]) := by
  obtain ⟨most, youngest⟩ := law
  refine ⟨by simpa using most, markerYoungest_iff.2 (List.pairwise_append.2 ⟨?_, List.pairwise_singleton .., ?_⟩)⟩
  · exact markerYoungest_iff.1 youngest
  · intro e _ x m _
    rw [List.mem_singleton.1 m]
    rfl

/-- The response takes the place that the frame has left (R169). -/
theorem outboxLaw_of_answered {s t : State} {h : HostId} {f : Frame} (held : (s.port h).buffer = some f) (law : OutboxLaw s)
    (answered : Answered h f (taken s h) t) : OutboxLaw t := by
  obtain ⟨u, a, eased, rfl⟩ := answered
  intro k
  obtain ⟨room, notices⟩ := law k
  have buffer := eased.buffer k
  have fewer := eased.responses k
  have order := eased.notices k notices
  rw [taken_port] at buffer
  rw [taken_outbox] at fewer
  rw [State.respond_port, State.respond, State.withOutbox_outbox]
  by_cases here : k = h
  · subst here
    rw [if_pos rfl] at buffer ⊢
    rw [held] at room
    refine ⟨?_, noticesInOrder_respond order ..⟩
    rw [buffer, responses_append]
    exact (Nat.add_le_add_right fewer 1).trans room
  · rw [if_neg here] at buffer ⊢
    rw [buffer]
    exact ⟨(Nat.add_le_add_right fewer _).trans room, order⟩

/-- A request row, by the one response its handling ends in, or the refusal at dispatch (R186). -/
theorem outboxLaw_taking {s : State} (law : OutboxLaw s) {k : RequestKind} {handle : HostId → Frame → State → State}
    (handled : ∀ h f t, Answered h f t (handle h f t)) : OutboxLaw (s.taking k handle) := by
  by_cases n : ∃ h f, Next k s h f
  · obtain ⟨h, f, n⟩ := n
    have answered {t : State} := outboxLaw_of_answered (t := t) (buffer_of_nextFrame n.1) law
    by_cases att : s.attached h = true
    · rw [taking_served ⟨n, att⟩]
      exact answered (handled h f _)
    · cases always : k.servedAlways with
      | true =>
        rw [taking_always n always]
        exact answered (handled h f _)
      | false =>
        rw [taking_unattached n always (by simpa using att)]
        exact answered (answered_refuse .notAttached)
  · rw [taking_otherwise fun h f m => n ⟨h, f, m⟩]
    exact law

theorem outboxLaw_takingUnknown {s : State} (law : OutboxLaw s) : OutboxLaw s.takingUnknown := by
  unfold State.takingUnknown
  split
  · exact law
  · next h f next =>
    split
    · rw [takeFrame_renewLease]
      exact outboxLaw_of_answered (buffer_of_nextFrame next) law (answered_refuse _)
    · exact law

/-! ### Every command -/

/-- Every command but a reset keeps the law: the end of a REQUEST by its judgement, the rows of the arbiter by their one response,
and any other because it eases the law. -/
theorem outboxLaw_exec {i : Instr} {s t : State} (other : i.resets = false) (law : OutboxLaw s) (run : exec i s = .next t) :
    OutboxLaw t := by
  have reached (e : Nat) : Eased s (s.reach e) := eased_of_eq rfl rfl
  cases i <;> cases run
  case powerOn | resetFall | resetRelease => cases other
  case startUpEnd | overdrawCountFull | idleFaultLimit =>
    split
    · exact (eased_completeSlot ..).outboxLaw law
    · exact law
  case slotCompletion => exact (eased_completeSlot ..).outboxLaw law
  case deratePinChange =>
    split
    · exact law
    · dsimp only
      split <;> exact law
  case derateHoldExpiry =>
    split
    · exact law
    · next e _ => exact Eased.outboxLaw ((eased_recompute ..).after rfl rfl) law
  case rampTimerExpiry | graceTimerExpiry =>
    split
    · exact law
    · exact (eased_trip ..).outboxLaw law
  case holdoffTimerExpiry =>
    split
    · exact law
    · exact (eased_postHolder ..).outboxLaw law
  case dischargeTimerExpiry =>
    split
    · exact law
    · next e running => exact (eased_acts (acts_endToFaulted (s.reach e) _ (by simp [state_of_expiryOf running]))).outboxLaw law
  case leaseExpiry =>
    split
    · split
      · exact law
      · exact ((reached _).trans (eased_closeSession ..)).outboxLaw law
    · exact law
  case windowTimerExpiry =>
    split
    · exact law
    · exact ((reached _).trans (eased_closeProposal ..)).outboxLaw law
  case blockingTimerExpiry => split <;> exact law
  case deadlineExpiry =>
    split
    · exact law
    · split
      · exact law
      · next e _ =>
        exact (((reached e).trans (eased_setEntries ..)).trans
          (eased_acts ((acts_post ..).trans (acts_scanQueue _)))).outboxLaw law
  case status =>
    split
    · exact (eased_selectFall ..).outboxLaw law
    · split <;> exact (eased_withPort rfl).outboxLaw law
  case unknownTransaction =>
    split
    · split
      · exact (eased_selectFall ..).outboxLaw law
      · exact (eased_withPort rfl).outboxLaw law
    · exact law
  case request =>
    split
    · exact (eased_selectFall ..).outboxLaw law
    · exact outboxLaw_endRequest law _ _ _
  case peek =>
    split
    · exact (eased_selectFall ..).outboxLaw law
    · exact (eased_withPort rfl).outboxLaw law
  case take =>
    split
    · exact (eased_selectFall ..).outboxLaw law
    · exact (eased_take ..).outboxLaw law
  case outboxHeadFix =>
    split
    · exact law
    · exact (eased_withPort rfl).outboxLaw law
  case unknownRequestKind => exact outboxLaw_takingUnknown law
  case queryPart | renew | readSession | readBudget | readQueue | readProposal =>
    exact outboxLaw_taking law fun _ _ _ => answered_bodiless (answered_respond _)
  case attach => exact outboxLaw_taking law fun _ _ _ => answered_handleAttach
  case detach => exact outboxLaw_taking law fun _ _ _ => answered_handleDetach _
  case claim => exact outboxLaw_taking law fun _ _ _ => answered_handleClaim
  case cancel => exact outboxLaw_taking law fun _ _ _ => answered_handleCancel
  case resize => exact outboxLaw_taking law fun _ _ _ => answered_handleResize
  case release => exact outboxLaw_taking law fun _ _ _ => answered_handleRelease
  case clearTrip => exact outboxLaw_taking law fun _ _ _ => answered_handleClearTrip
  case readChannel => exact outboxLaw_taking law fun _ _ _ => answered_handleReadChannel
  case readTally => exact outboxLaw_taking law fun _ _ _ => answered_handleReadTally
  case readConfig => exact outboxLaw_taking law fun _ _ _ => answered_handleReadConfig
  case propose => exact outboxLaw_taking law fun _ _ _ => answered_handlePropose _
  case consent => exact outboxLaw_taking law fun _ _ _ => answered_handleConsent _
  case dissent => exact outboxLaw_taking law fun _ _ _ => answered_handleDissent
  case withdraw => exact outboxLaw_taking law fun _ _ _ => answered_handleWithdraw

/-- With every outbox empty the law holds, one frame held at most (R177). -/
theorem outboxLaw_of_empty {s : State} (empty : ∀ h, s.outbox h = []) : OutboxLaw s := fun h => by
  rw [empty h]
  exact ⟨by rw [responses_nil, Nat.zero_add]; exact (Bool.toNat_le _).trans (by decide), noticesInOrder_nil⟩

/-- Settles O56: after a reset every outbox is empty, any other command adds what the law has room for. -/
theorem outboxLawKept : Obligations.OutboxLawKept := by
  intro s t law run
  unfold step at run
  split at run
  · cases run
    exact law
  · next i rest _ =>
    have law' : OutboxLaw { s with pending := rest } := law
    cases kind : i.resets with
    | false => exact outboxLaw_exec kind law' run
    | true =>
      rcases resets_cases kind run with rfl | ⟨straps, ports, rfl⟩ | ⟨-, straps, rfl⟩
      · exact law'
      · exact outboxLaw_of_empty fun h => Table.read_const ..
      · exact outboxLaw_of_empty fun h => Table.read_const ..

end Sys2Proof
end

section
/-! The host link: the order in which the arbiter goes round the ports, and a REQUEST frame judged and read. -/

namespace Sys2Proof

open Machine

/-! ### The arbiter -/

/-- In a list whose ranks rise, the first that holds something is the one before which nobody does. -/
theorem findSome?_eq_some_iff_of_rising {ι α : Type} (rank : ι → Nat) (held : ι → Option α) {ports : List ι}
    (rising : ports.Pairwise (rank · < rank ·)) (h : ι) (f : α) :
    ports.findSome? (fun k => (held k).map fun g => (k, g)) = some (h, f) ↔
      h ∈ ports ∧ held h = some f ∧ ∀ k ∈ ports, rank k < rank h → held k = none := by
  induction ports with
  | nil => simp
  | cons p rest ih =>
    obtain ⟨after, rising⟩ := List.pairwise_cons.1 rising
    cases holds : held p with
    | none =>
      have other : held h = some f → h ≠ p := by rintro full rfl; simp [holds] at full
      rw [List.findSome?_cons_of_isNone (by simp [holds]), ih rising]
      simp only [List.mem_cons, forall_eq_or_imp, holds, implies_true, true_and]
      exact and_congr_left fun ⟨full, _⟩ => (or_iff_right (other full)).symm
    | some g =>
      rw [List.findSome?_cons_of_isSome (by simp [holds])]
      simp only [holds, Option.map_some, Option.some.injEq, Prod.mk.injEq]
      constructor
      · rintro ⟨rfl, rfl⟩
        refine ⟨List.mem_cons_self, holds, fun k m nearer => ?_⟩
        rcases List.mem_cons.1 m with rfl | m
        · exact absurd nearer (Nat.lt_irrefl _)
        · exact absurd nearer (after k m).not_gt
      · rintro ⟨m, full, nearer⟩
        rcases List.mem_cons.1 m with rfl | m
        · exact ⟨rfl, Option.some.inj (holds.symm.trans full)⟩
        · have empty := nearer p List.mem_cons_self (after h m)
          cases holds.symm.trans empty

/-- The ports in the order in which the arbiter looks at them: the one at the pointer first (R185). -/
def roundFrom (p : HostId) : List HostId := [p, p + 1, p + 2, p + 3]

/-- Each further port of the round is farther from the pointer, upward and wrapping. -/
theorem roundFrom_rising (p : HostId) : (roundFrom p).Pairwise fun j k => (j - p).val < (k - p).val := by
  revert p; decide

theorem mem_roundFrom (p k : HostId) : k ∈ roundFrom p := by
  revert p k; decide

section Arbiter
variable {s : State}

theorem nextFrame_of_low (low : s.pins.resetLow = true) : s.nextFrame = none := if_pos low

theorem nextFrame_of_high (high : s.pins.resetLow = false) :
    s.nextFrame = (roundFrom s.pointer).findSome? fun k => (s.port k).buffer.map fun f => (k, f) :=
  if_neg (by simp [high])

theorem nextFrame_eq_none_iff (high : s.pins.resetLow = false) :
    s.nextFrame = none ↔ ∀ h, (s.port h).buffer = none := by
  simp [nextFrame_of_high high, mem_roundFrom]

theorem nextFrame_eq_some_iff (high : s.pins.resetLow = false) (h : HostId) (f : Frame) :
    s.nextFrame = some (h, f) ↔
      (s.port h).buffer = some f ∧
        ∀ k, (k - s.pointer).val < (h - s.pointer).val → (s.port k).buffer = none := by
  rw [nextFrame_of_high high,
    findSome?_eq_some_iff_of_rising (fun k => (k - s.pointer).val) (fun k => (s.port k).buffer) (roundFrom_rising _)]
  simp only [mem_roundFrom, true_and, forall_const]

end Arbiter

/-- Settles O52: the ports are looked at in order of their distance from the pointer. -/
theorem arbiterTakesInRotatingOrder : Obligations.ArbiterTakesInRotatingOrder := fun _ =>
  ⟨nextFrame_of_low, fun high => ⟨nextFrame_eq_none_iff high, nextFrame_eq_some_iff high⟩⟩

/-! ### The check byte and the reading of a frame -/

theorem crc_append_singleton (bytes : List Byte) (b : Byte) : crc (bytes ++ [b]) = crcShift 8 (crc bytes ^^^ b) := by
  simp [crc]

/-- The check byte cancels the remainder that the bytes before it leave (R182). -/
theorem crc_closed (bytes : List Byte) : crc (closed bytes) = 0#8 := by
  rw [closed, crc_append_singleton, crcShift_xor_self]

/-- With the three bytes of a header at hand, a frame is ill-formed by its length byte, its length or a stray bit (R183). -/
theorem malformed_cons_iff (kind tag len : Byte) (rest : List Byte) (stray : Fin 8) :
    malformed (kind :: tag :: len :: rest) stray = true ↔
      24 < len.toNat ∨ (kind :: tag :: len :: rest).length ≠ 4 + len.toNat ∨ stray ≠ 0 := by
  simp only [malformed, Bool.or_eq_true, decide_eq_true_iff, bne_iff_ne, or_assoc]
  simp only [Config.bodyMax]

theorem malformed_of_short {frame : List Byte} (short : frame.length < 3) (stray : Fin 8) :
    malformed frame stray = true := by
  match frame, short with
  | [], _ | [_], _ | [_, _], _ => rfl

theorem malformed_of_stray (frame : List Byte) {stray : Fin 8} (unfinished : stray ≠ 0) :
    malformed frame stray = true := by
  match frame with
  | [] | [_] | [_, _] => rfl
  | kind :: tag :: len :: rest => exact (malformed_cons_iff ..).2 (.inr (.inr unfinished))

/-- The bytes of a request frame: header, body and check byte (R181). -/
def requestBytes (f : Frame) : List Byte := closed (f.kind :: f.tag :: BitVec.ofNat 8 f.body.length :: f.body)

theorem requestBytes_eq (f : Frame) :
    ∃ check, requestBytes f = f.kind :: f.tag :: BitVec.ofNat 8 f.body.length :: (f.body ++ [check]) := ⟨_, rfl⟩

section Reading
variable {f : Frame} (fits : f.body.length ≤ 24)
include fits

theorem malformed_requestBytes : malformed (requestBytes f) 0 = false := by
  have len := toNat_byte f.body.length (by omega)
  obtain ⟨check, eq⟩ := requestBytes_eq f
  rw [← Bool.not_eq_true, eq, malformed_cons_iff, len]
  simp only [List.length_cons, List.length_append, List.length_nil]
  omega

/-- The length byte parts the body from the check byte behind it. -/
theorem frameOf_requestBytes : frameOf (requestBytes f) = some f := by
  have len := toNat_byte f.body.length (by omega)
  obtain ⟨check, eq⟩ := requestBytes_eq f
  rw [eq, frameOf, len, List.take_left]

end Reading

/-- Settles O58: the check byte cancels the remainder, and the length byte delimits the body. -/
theorem requestFrameReadsBack : Obligations.RequestFrameReadsBack :=
  ⟨crc_closed, fun _ fits => ⟨malformed_requestBytes fits, frameOf_requestBytes fits⟩⟩

/-! ### The judgement of a REQUEST -/

section Judgement
variable {s : State} {h : HostId} {frame : List Byte} {stray : Fin 8}

theorem judgeRequest_of_notReady (early : s.ready = false) : s.judgeRequest h frame stray = .notReady := if_pos early

theorem judgeRequest_of_malformed (ready : s.ready = true) (ill : malformed frame stray = true) :
    s.judgeRequest h frame stray = .malformed := by
  simp [State.judgeRequest, ready, ill]

variable (ready : s.ready = true) (whole : malformed frame stray = false)
include ready whole

theorem judgeRequest_of_crc (wrong : crc frame ≠ 0#8) : s.judgeRequest h frame stray = .checkError := by
  simp [State.judgeRequest, ready, whole, wrong]

variable (checks : crc frame = 0#8)
include checks

theorem judgeRequest_of_held {f : Frame} (held : (s.port h).buffer = some f) :
    s.judgeRequest h frame stray = .bufferBusy := by
  simp [State.judgeRequest, ready, whole, checks, held]

theorem judgeRequest_of_full (empty : (s.port h).buffer = none) (full : 4 ≤ responses (s.outbox h)) :
    s.judgeRequest h frame stray = .full := by
  have full' : Config.responseCapacity ≤ (s.outbox h).countP OutEntry.isResponse := full
  simp [State.judgeRequest, ready, whole, checks, empty, full']

theorem judgeRequest_of_room (empty : (s.port h).buffer = none) (room : responses (s.outbox h) < 4) :
    s.judgeRequest h frame stray = .accepted := by
  have room' : ¬ Config.responseCapacity ≤ (s.outbox h).countP OutEntry.isResponse := Nat.not_le_of_lt room
  simp [State.judgeRequest, ready, whole, checks, empty, room']

end Judgement

/-! ### The end of a REQUEST -/

section Ends
variable {s : State} {h : HostId} {frame : List Byte} {stray : Fin 8}

/-- A REQUEST that ends with this result and this input buffer, nothing but its port changed (R183). -/
def RequestEnds (s : State) (h : HostId) (frame : List Byte) (stray : Fin 8) (result : FrameResult)
    (buffer : Option Frame) : Prop :=
  ∃ t, exec (.request h (.rise frame) stray) s = .next t ∧ t = { s with ports := t.ports } ∧
    t.port h =
      { s.port h with result := result, buffer := buffer, select := none, fix := none, sdo := (t.port h).sdo } ∧
    ∀ k, k ≠ h → t.port k = s.port k

theorem endRequest_port (s : State) (h k : HostId) (frame : List Byte) (stray : Fin 8) :
    (s.endRequest h frame stray).port k =
      if k = h then
        { s.port k with
          result := s.judgeRequest h frame stray,
          buffer := if s.judgeRequest h frame stray = .accepted then frameOf frame else (s.port k).buffer,
          select := none, fix := none, sdo := s.statusAndZeros h frame.length }
      else s.port k := by
  rw [State.endRequest, State.withPort_port]
  rfl

/-- The result is the judgement; the buffer is filled by an accepted frame alone. -/
theorem requestEnds_of_judged {result : FrameResult} (judged : s.judgeRequest h frame stray = result) :
    RequestEnds s h frame stray result (if result = .accepted then frameOf frame else (s.port h).buffer) := by
  subst judged
  refine ⟨_, rfl, State.endRequest_eq s h frame stray, ?_, fun k other => ?_⟩ <;> rw [endRequest_port]
  · rw [if_pos rfl]
  · rw [if_neg other]

theorem requestEnds_of_malformed (ready : s.ready = true) (ill : malformed frame stray = true) :
    RequestEnds s h frame stray .malformed (s.port h).buffer :=
  requestEnds_of_judged (judgeRequest_of_malformed ready ill)

end Ends

/-- Settles O57: the lines of R183's table in its order, each by the judgement it leads to. -/
theorem requestIsJudgedByItsTable : Obligations.RequestIsJudgedByItsTable := by
  intro s h frame stray Result
  refine ⟨fun early => requestEnds_of_judged (judgeRequest_of_notReady early), fun ready => ⟨?short, ?header⟩⟩
  case short =>
    rintro (short | unfinished)
    · exact requestEnds_of_malformed ready (malformed_of_short short stray)
    · exact requestEnds_of_malformed ready (malformed_of_stray frame unfinished)
  case header =>
    rintro kind tag len rest rfl rfl
    have ill := malformed_cons_iff kind tag len rest 0
    refine ⟨fun off => requestEnds_of_malformed ready (ill.2 (off.imp_right .inl)), fun bounded exactly => ?_⟩
    have whole : malformed (kind :: tag :: len :: rest) 0 = false := by
      rw [← Bool.not_eq_true, ill]
      simp [bounded, exactly]
    refine ⟨fun wrong => requestEnds_of_judged (judgeRequest_of_crc ready whole wrong), fun checks => ⟨?_, ?_, ?_⟩⟩
    · intro f held
      have ends := requestEnds_of_judged (judgeRequest_of_held ready whole checks held)
      rwa [if_neg (by decide), held] at ends
    · intro empty full
      have ends := requestEnds_of_judged (judgeRequest_of_full ready whole checks empty full)
      rwa [if_neg (by decide), empty] at ends
    · intro empty room
      exact requestEnds_of_judged (judgeRequest_of_room ready whole checks empty room)

end Sys2Proof
end

section
/-! The step and the queue of commands: what stands at the queue's front decides what a step does, every run ends in a state,
and no command touches the queue. -/

namespace Sys2Proof

open Machine

/-! ### One step -/

theorem step_of_front {i : Instr} {rest : List Instr} {s : State} (front : s.pending = i :: rest) :
    step s = exec i { s with pending := rest } := by
  simp only [step, front]

theorem step_of_empty {s : State} (empty : s.pending = []) : step s = .next s.idleTick := by
  simp only [step, empty]

/-- Settles O1: the two cases of the queue. -/
theorem stepRunsTheFrontCommand : Obligations.StepRunsTheFrontCommand :=
  ⟨fun _ _ _ => step_of_front rfl, fun _ empty => step_of_empty empty⟩

/-! ### Every run ends in a state -/

/-- No command ends in a fault or a refusal: each arm answers a next state. -/
theorem exec_gives_state (i : Instr) (s : State) : ∃ t, exec i s = .next t := by
  cases i <;> exact ⟨_, rfl⟩

theorem safeStep (s : State) : SafeStep s := by
  cases queue : s.pending with
  | nil => exact ⟨_, step_of_empty queue⟩
  | cons i rest =>
    obtain ⟨t, ran⟩ := exec_gives_state i { s with pending := rest }
    exact ⟨t, (step_of_front queue).trans ran⟩

theorem run_succ_of_step {M : Host.Core} {s t : M.State} (stepped : M.step s = .next t) (k : Nat) :
    M.run (k + 1) s = M.run k t := by
  rw [Host.Core.run, stepped]

theorem safeRun (k : Nat) (s : State) : SafeRun k s := by
  induction k generalizing s with
  | zero => exact ⟨s, rfl⟩
  | succ k ih =>
    obtain ⟨t, stepped⟩ := safeStep s
    obtain ⟨u, ran⟩ := ih t
    exact ⟨u, (run_succ_of_step (M := core) stepped k).trans ran⟩

/-! ### The queue of commands -/

theorem pending_move {s t : State} (m : Move s t) : t.pending = s.pending := by
  cases m with
  | act a => exact a.quiet.pending
  | place => exact (quiet_setEntries ..).pending
  | _ => rfl

theorem pending_moves {s t : State} (m : Moves s t) : t.pending = s.pending :=
  m.keeps (law := fun u => u.pending = s.pending) (fun _ _ same m => (pending_move m).trans same) rfl

theorem pending_recompute (s : State) (k : BudgetCause) : (s.recompute k).pending = s.pending :=
  (quiet_recompute s k).pending

theorem pending_effects {ch : Change} {s t : State} (effects : Effects ch s t) : t.pending = s.pending := by
  induction effects with
  | refl => rfl
  | tail _ e ih =>
    refine Eq.trans ?_ ih
    cases e with
    | move m => exact pending_move m
    | straps | config => rfl
    | level k => exact pending_recompute ..

theorem pending_deed {s t : State} (d : Deed s t) : t.pending = s.pending := by
  cases d with
  | move m => exact pending_move m
  | round c => rw [State.countRound_eq]
  | derate e _ k => exact pending_recompute (s.withFilter _ none) k
  | depart h k _ m => exact (pending_moves m :)
  | adopt ch _ effects => exact (pending_effects effects :)
  | _ => rfl

theorem pending_reset {i : Instr} {s t : State} (kind : i.resets = true) (run : exec i s = .next t) :
    t.pending = s.pending := by
  rcases resets_cases kind run with rfl | ⟨straps, ports, rfl⟩ | ⟨-, straps, rfl⟩ <;> rfl

/-- A reset writes the queue back as it found it, and every other command is a run of deeds. -/
theorem pending_exec {i : Instr} {s t : State} (run : exec i s = .next t) : t.pending = s.pending := by
  cases kind : i.resets with
  | true => exact pending_reset kind run
  | false =>
    exact (deeds_exec kind run).keeps (law := fun u => u.pending = s.pending)
      (fun _ _ same d => (pending_deed d).trans same) rfl

/-- Settles O2: runs by induction on their length, the queue by the deeds of a command and by the states of the resets. -/
theorem everyRunGivesAStateAndCommandsLeaveTheQueue : Obligations.EveryRunGivesAStateAndCommandsLeaveTheQueue :=
  ⟨safeRun, fun _ _ _ => pending_exec⟩

end Sys2Proof
end
